-- ==== Sys2Proof/Word.lean ====
section
/-! DEFINITION. The machine's two word sizes: the memory cell and general register of 8 bits, and the address,
`sp` and `pc` of 16 bits (spec 00_scope.md R5). -/
namespace Sys2Proof

/-- A memory cell or general register, `u8` (00_scope.md R6). -/
abbrev Byte := BitVec 8

/-- An address, `sp`, `pc` or register pair, `u16`, arithmetic modulo 0x10000 (00_scope.md R5, R6). -/
abbrev Word := BitVec 16

end Sys2Proof
end

