-- ==== Sys2Proof/Syntax.lean ====
section
/-! DEFINITION. The instructions: one constructor of `Instr` for each of the 512 rows of spec/opcode_table.json, named as
the row (`LD B,(HL)` is `ld_B_indHL`, `LD (HL+),A` is `ld_indHLinc_A`), and the operand codes of 30_encoding.md
R155-R160. An instruction carries its immediate bytes and nothing else: every register operand, bit number, condition
and restart target is spelled out by the row. -/
namespace Sys2Proof

/-- The seven 8-bit general registers (10_state.md R20); the operand codes 0-5 and 7 of 30_encoding.md R155. -/
inductive Reg8 where
  | A | B | C | D | E | H | L
  deriving DecidableEq, Repr

/-- An 8-bit operand code (30_encoding.md R155): a register, or code 6, the memory byte at `x[HL]`. -/
inductive Operand8 where
  | reg (r : Reg8)
  | indHL
  deriving DecidableEq, Repr

/-- A 16-bit operand code `rr` (30_encoding.md R156). -/
inductive Pair where
  | BC | DE | HL | SP
  deriving DecidableEq, Repr

/-- A 16-bit operand code `qq` of `PUSH` and `POP` (30_encoding.md R157). -/
inductive StackPair where
  | BC | DE | HL | AF
  deriving DecidableEq, Repr

/-- A condition code `cc` (30_encoding.md R158). -/
inductive Cond where
  | NZ | Z | NC | C
  deriving DecidableEq, Repr

/-- An ALU operation code (30_encoding.md R159). -/
inductive AluOp where
  | add | adc | sub | sbc | and | xor | or | cp
  deriving DecidableEq, Repr

/-- A rotate or shift operation code of the `CB` table (30_encoding.md R160). -/
inductive ShiftOp where
  | rlc | rrc | rl | rr | sla | sra | swap | srl
  deriving DecidableEq, Repr

/-- The instruction set, one constructor per row of spec/opcode_table.json, family by family: first the rows that carry
an immediate (Lean's compiled code wants the constructors that have fields among the first), then the others. -/
inductive Instr where
  -- 8-bit loads (40_load8.md R200-R218), with an immediate
  | ld_B_d8 (d8 : Byte)
  | ld_C_d8 (d8 : Byte)
  | ld_D_d8 (d8 : Byte)
  | ld_E_d8 (d8 : Byte)
  | ld_H_d8 (d8 : Byte)
  | ld_L_d8 (d8 : Byte)
  | ld_indHL_d8 (d8 : Byte)
  | ld_A_d8 (d8 : Byte)
  | ldh_ind_a8_A (a8 : Byte)
  | ld_ind_a16_A (a16 : Word)
  | ldh_A_ind_a8 (a8 : Byte)
  | ld_A_ind_a16 (a16 : Word)
  -- 16-bit loads and stack (41_load16_stack.md R230-R237), with an immediate
  | ld_BC_d16 (d16 : Word)
  | ld_ind_a16_SP (a16 : Word)
  | ld_DE_d16 (d16 : Word)
  | ld_HL_d16 (d16 : Word)
  | ld_SP_d16 (d16 : Word)
  | ld_HL_SPe8 (e8 : Byte)
  -- 8-bit arithmetic and logic (42_alu8.md R254-R285), with an immediate
  | add_A_d8 (d8 : Byte)
  | adc_A_d8 (d8 : Byte)
  | sub_d8 (d8 : Byte)
  | sbc_A_d8 (d8 : Byte)
  | and_d8 (d8 : Byte)
  | xor_d8 (d8 : Byte)
  | or_d8 (d8 : Byte)
  | cp_d8 (d8 : Byte)
  -- 16-bit arithmetic (43_alu16.md R300-R303), with an immediate
  | add_SP_e8 (e8 : Byte)
  -- Jumps, calls, returns (45_control_flow.md R353-R363), with an immediate
  | jr_e8 (e8 : Byte)
  | jr_NZ_e8 (e8 : Byte)
  | jr_Z_e8 (e8 : Byte)
  | jr_NC_e8 (e8 : Byte)
  | jr_C_e8 (e8 : Byte)
  | jp_NZ_a16 (a16 : Word)
  | jp_a16 (a16 : Word)
  | call_NZ_a16 (a16 : Word)
  | jp_Z_a16 (a16 : Word)
  | call_Z_a16 (a16 : Word)
  | call_a16 (a16 : Word)
  | jp_NC_a16 (a16 : Word)
  | call_NC_a16 (a16 : Word)
  | jp_C_a16 (a16 : Word)
  | call_C_a16 (a16 : Word)
  -- CPU control (46_cpu_control.md R370-R376), with an immediate
  | stop (ignored : Byte)
  | prefix_CB (op2 : Byte)
  -- 8-bit loads (40_load8.md R200-R218)
  | ld_indBC_A
  | ld_A_indBC
  | ld_indDE_A
  | ld_A_indDE
  | ld_indHLinc_A
  | ld_A_indHLinc
  | ld_indHLdec_A
  | ld_A_indHLdec
  | ld_B_B
  | ld_B_C
  | ld_B_D
  | ld_B_E
  | ld_B_H
  | ld_B_L
  | ld_B_indHL
  | ld_B_A
  | ld_C_B
  | ld_C_C
  | ld_C_D
  | ld_C_E
  | ld_C_H
  | ld_C_L
  | ld_C_indHL
  | ld_C_A
  | ld_D_B
  | ld_D_C
  | ld_D_D
  | ld_D_E
  | ld_D_H
  | ld_D_L
  | ld_D_indHL
  | ld_D_A
  | ld_E_B
  | ld_E_C
  | ld_E_D
  | ld_E_E
  | ld_E_H
  | ld_E_L
  | ld_E_indHL
  | ld_E_A
  | ld_H_B
  | ld_H_C
  | ld_H_D
  | ld_H_E
  | ld_H_H
  | ld_H_L
  | ld_H_indHL
  | ld_H_A
  | ld_L_B
  | ld_L_C
  | ld_L_D
  | ld_L_E
  | ld_L_H
  | ld_L_L
  | ld_L_indHL
  | ld_L_A
  | ld_indHL_B
  | ld_indHL_C
  | ld_indHL_D
  | ld_indHL_E
  | ld_indHL_H
  | ld_indHL_L
  | ld_indHL_A
  | ld_A_B
  | ld_A_C
  | ld_A_D
  | ld_A_E
  | ld_A_H
  | ld_A_L
  | ld_A_indHL
  | ld_A_A
  | ld_indC_A
  | ld_A_indC
  -- 16-bit loads and stack (41_load16_stack.md R230-R237)
  | pop_BC
  | push_BC
  | pop_DE
  | push_DE
  | pop_HL
  | push_HL
  | pop_AF
  | push_AF
  | ld_SP_HL
  -- 8-bit arithmetic and logic (42_alu8.md R254-R285)
  | inc_B
  | dec_B
  | inc_C
  | dec_C
  | inc_D
  | dec_D
  | inc_E
  | dec_E
  | inc_H
  | dec_H
  | daa
  | inc_L
  | dec_L
  | cpl
  | inc_indHL
  | dec_indHL
  | scf
  | inc_A
  | dec_A
  | ccf
  | add_A_B
  | add_A_C
  | add_A_D
  | add_A_E
  | add_A_H
  | add_A_L
  | add_A_indHL
  | add_A_A
  | adc_A_B
  | adc_A_C
  | adc_A_D
  | adc_A_E
  | adc_A_H
  | adc_A_L
  | adc_A_indHL
  | adc_A_A
  | sub_B
  | sub_C
  | sub_D
  | sub_E
  | sub_H
  | sub_L
  | sub_indHL
  | sub_A
  | sbc_A_B
  | sbc_A_C
  | sbc_A_D
  | sbc_A_E
  | sbc_A_H
  | sbc_A_L
  | sbc_A_indHL
  | sbc_A_A
  | and_B
  | and_C
  | and_D
  | and_E
  | and_H
  | and_L
  | and_indHL
  | and_A
  | xor_B
  | xor_C
  | xor_D
  | xor_E
  | xor_H
  | xor_L
  | xor_indHL
  | xor_A
  | or_B
  | or_C
  | or_D
  | or_E
  | or_H
  | or_L
  | or_indHL
  | or_A
  | cp_B
  | cp_C
  | cp_D
  | cp_E
  | cp_H
  | cp_L
  | cp_indHL
  | cp_A
  -- 16-bit arithmetic (43_alu16.md R300-R303)
  | inc_BC
  | add_HL_BC
  | dec_BC
  | inc_DE
  | add_HL_DE
  | dec_DE
  | inc_HL
  | add_HL_HL
  | dec_HL
  | inc_SP
  | add_HL_SP
  | dec_SP
  -- Rotates, shifts and bits (44_rotate_shift_bit.md R310-R336)
  | rlca
  | rrca
  | rla
  | rra
  | rlc_B
  | rlc_C
  | rlc_D
  | rlc_E
  | rlc_H
  | rlc_L
  | rlc_indHL
  | rlc_A
  | rrc_B
  | rrc_C
  | rrc_D
  | rrc_E
  | rrc_H
  | rrc_L
  | rrc_indHL
  | rrc_A
  | rl_B
  | rl_C
  | rl_D
  | rl_E
  | rl_H
  | rl_L
  | rl_indHL
  | rl_A
  | rr_B
  | rr_C
  | rr_D
  | rr_E
  | rr_H
  | rr_L
  | rr_indHL
  | rr_A
  | sla_B
  | sla_C
  | sla_D
  | sla_E
  | sla_H
  | sla_L
  | sla_indHL
  | sla_A
  | sra_B
  | sra_C
  | sra_D
  | sra_E
  | sra_H
  | sra_L
  | sra_indHL
  | sra_A
  | swap_B
  | swap_C
  | swap_D
  | swap_E
  | swap_H
  | swap_L
  | swap_indHL
  | swap_A
  | srl_B
  | srl_C
  | srl_D
  | srl_E
  | srl_H
  | srl_L
  | srl_indHL
  | srl_A
  | bit_0_B
  | bit_0_C
  | bit_0_D
  | bit_0_E
  | bit_0_H
  | bit_0_L
  | bit_0_indHL
  | bit_0_A
  | bit_1_B
  | bit_1_C
  | bit_1_D
  | bit_1_E
  | bit_1_H
  | bit_1_L
  | bit_1_indHL
  | bit_1_A
  | bit_2_B
  | bit_2_C
  | bit_2_D
  | bit_2_E
  | bit_2_H
  | bit_2_L
  | bit_2_indHL
  | bit_2_A
  | bit_3_B
  | bit_3_C
  | bit_3_D
  | bit_3_E
  | bit_3_H
  | bit_3_L
  | bit_3_indHL
  | bit_3_A
  | bit_4_B
  | bit_4_C
  | bit_4_D
  | bit_4_E
  | bit_4_H
  | bit_4_L
  | bit_4_indHL
  | bit_4_A
  | bit_5_B
  | bit_5_C
  | bit_5_D
  | bit_5_E
  | bit_5_H
  | bit_5_L
  | bit_5_indHL
  | bit_5_A
  | bit_6_B
  | bit_6_C
  | bit_6_D
  | bit_6_E
  | bit_6_H
  | bit_6_L
  | bit_6_indHL
  | bit_6_A
  | bit_7_B
  | bit_7_C
  | bit_7_D
  | bit_7_E
  | bit_7_H
  | bit_7_L
  | bit_7_indHL
  | bit_7_A
  | res_0_B
  | res_0_C
  | res_0_D
  | res_0_E
  | res_0_H
  | res_0_L
  | res_0_indHL
  | res_0_A
  | res_1_B
  | res_1_C
  | res_1_D
  | res_1_E
  | res_1_H
  | res_1_L
  | res_1_indHL
  | res_1_A
  | res_2_B
  | res_2_C
  | res_2_D
  | res_2_E
  | res_2_H
  | res_2_L
  | res_2_indHL
  | res_2_A
  | res_3_B
  | res_3_C
  | res_3_D
  | res_3_E
  | res_3_H
  | res_3_L
  | res_3_indHL
  | res_3_A
  | res_4_B
  | res_4_C
  | res_4_D
  | res_4_E
  | res_4_H
  | res_4_L
  | res_4_indHL
  | res_4_A
  | res_5_B
  | res_5_C
  | res_5_D
  | res_5_E
  | res_5_H
  | res_5_L
  | res_5_indHL
  | res_5_A
  | res_6_B
  | res_6_C
  | res_6_D
  | res_6_E
  | res_6_H
  | res_6_L
  | res_6_indHL
  | res_6_A
  | res_7_B
  | res_7_C
  | res_7_D
  | res_7_E
  | res_7_H
  | res_7_L
  | res_7_indHL
  | res_7_A
  | set_0_B
  | set_0_C
  | set_0_D
  | set_0_E
  | set_0_H
  | set_0_L
  | set_0_indHL
  | set_0_A
  | set_1_B
  | set_1_C
  | set_1_D
  | set_1_E
  | set_1_H
  | set_1_L
  | set_1_indHL
  | set_1_A
  | set_2_B
  | set_2_C
  | set_2_D
  | set_2_E
  | set_2_H
  | set_2_L
  | set_2_indHL
  | set_2_A
  | set_3_B
  | set_3_C
  | set_3_D
  | set_3_E
  | set_3_H
  | set_3_L
  | set_3_indHL
  | set_3_A
  | set_4_B
  | set_4_C
  | set_4_D
  | set_4_E
  | set_4_H
  | set_4_L
  | set_4_indHL
  | set_4_A
  | set_5_B
  | set_5_C
  | set_5_D
  | set_5_E
  | set_5_H
  | set_5_L
  | set_5_indHL
  | set_5_A
  | set_6_B
  | set_6_C
  | set_6_D
  | set_6_E
  | set_6_H
  | set_6_L
  | set_6_indHL
  | set_6_A
  | set_7_B
  | set_7_C
  | set_7_D
  | set_7_E
  | set_7_H
  | set_7_L
  | set_7_indHL
  | set_7_A
  -- Jumps, calls, returns (45_control_flow.md R353-R363)
  | ret_NZ
  | rst_00H
  | ret_Z
  | ret
  | rst_08H
  | ret_NC
  | rst_10H
  | ret_C
  | reti
  | rst_18H
  | rst_20H
  | jp_HL
  | rst_28H
  | rst_30H
  | rst_38H
  -- CPU control (46_cpu_control.md R370-R376)
  | nop
  | halt
  | unassigned_D3
  | unassigned_DB
  | unassigned_DD
  | unassigned_E3
  | unassigned_E4
  | unassigned_EB
  | unassigned_EC
  | unassigned_ED
  | di
  | unassigned_F4
  | ei
  | unassigned_FC
  | unassigned_FD
  deriving DecidableEq, Repr

end Sys2Proof
end

