-- ==== Sys2Proof/WellFormed.lean ====
section
/-! DEFINITION. Well-formed instructions: those that words stand for on their own. Every immediate is a whole byte or word
and every other operand is spelled out by the constructor, so the one ill-formed shape is the row `PREFIX CB`: its two
bytes are the bytes of the `CB` row they select (spec 46_cpu_control.md R375, log 7). -/
namespace Sys2Proof

/-- The row `PREFIX CB`, which "selects the second table" and is no instruction of its own (46_cpu_control.md R375). -/
def Instr.isPrefixCB : Instr → Bool
  | .prefix_CB _ => true
  | _ => false

/-- An instruction the decoder can give. -/
def Instr.wellFormed (i : Instr) : Bool := !i.isPrefixCB

end Sys2Proof
end

