-- ==== Sys2Proof/Decode.lean ====
section
/-! DEFINITION. The decoder, total on any bytes, and after it the encoder. The decoder is written from the field rules of
spec 30_encoding.md (R152-R165): it splits the opcode byte into `x y z p q` and reads the operand-code tables. The
encoder is written from the opcode grid (R166 and spec/opcode_table.json), one row at a time, so that the round trip
compares the two descriptions the spec gives of the map. -/
namespace Sys2Proof

/-! ## Bytes and words -/

/-- `hi:lo`, the 16-bit value of two bytes (00_scope.md R6). -/
def wordOf (hi lo : Byte) : Word := hi ++ lo

/-- `v[15:8]`. -/
def hiByte (v : Word) : Byte := v.extractLsb' 8 8

/-- `v[7:0]`. -/
def loByte (v : Word) : Byte := v.extractLsb' 0 8

/-! ## Formats -/

/-- The four instruction formats (30_encoding.md R152). -/
inductive Format where
  | op | op8 | op16 | cb
  deriving DecidableEq, Repr

/-- The length in bytes of a format (R152). -/
def Format.length : Format → Nat
  | .op => 1
  | .op8 => 2
  | .op16 => 3
  | .cb => 2

/-- The opcode values of format `OP16`, as R152 lists them. -/
def op16Opcodes : List Nat :=
  [0x01, 0x11, 0x21, 0x31, 0x08, 0xC2, 0xC3, 0xC4, 0xCA, 0xCC, 0xCD, 0xD2, 0xD4, 0xDA, 0xDC, 0xEA, 0xFA]

/-- The opcode values of format `OP8`, as R152 lists them. -/
def op8Opcodes : List Nat :=
  [0x06, 0x0E, 0x16, 0x1E, 0x26, 0x2E, 0x36, 0x3E, 0x10, 0x18, 0x20, 0x28, 0x30, 0x38, 0xC6, 0xCE, 0xD6, 0xDE, 0xE6,
    0xEE, 0xF6, 0xFE, 0xE0, 0xF0, 0xE8, 0xF8]

/-- "The length of an instruction is a function of byte 0 alone" (R152). An unassigned value is read alone (R376). -/
def formatOf (op : Byte) : Format :=
  if op16Opcodes.contains op.toNat then .op16
  else if op8Opcodes.contains op.toNat then .op8
  else if op.toNat = 0xCB then .cb
  else .op

/-! ## Operand codes -/

/-- 8-bit operand code (R155). -/
def Operand8.ofCode (n : Nat) : Operand8 :=
  match n with
  | 0 => .reg .B
  | 1 => .reg .C
  | 2 => .reg .D
  | 3 => .reg .E
  | 4 => .reg .H
  | 5 => .reg .L
  | 6 => .indHL
  | _ => .reg .A

/-- The code of a register (R155); 6 is that of `(HL)`. -/
def Reg8.code (r : Reg8) : Nat :=
  match r with
  | .B => 0
  | .C => 1
  | .D => 2
  | .E => 3
  | .H => 4
  | .L => 5
  | .A => 7

/-- 16-bit operand code `rr` (R156). -/
def Pair.ofCode (n : Nat) : Pair :=
  match n with
  | 0 => .BC
  | 1 => .DE
  | 2 => .HL
  | _ => .SP

/-- 16-bit operand code `qq` (R157). -/
def StackPair.ofCode (n : Nat) : StackPair :=
  match n with
  | 0 => .BC
  | 1 => .DE
  | 2 => .HL
  | _ => .AF

/-- The code of a stack pair (R157). -/
def StackPair.code (qq : StackPair) : Nat :=
  match qq with
  | .BC => 0
  | .DE => 1
  | .HL => 2
  | .AF => 3

/-- Condition code `cc` (R158). -/
def Cond.ofCode (n : Nat) : Cond :=
  match n with
  | 0 => .NZ
  | 1 => .Z
  | 2 => .NC
  | _ => .C

/-- The code of a condition (R158). -/
def Cond.code (cc : Cond) : Nat :=
  match cc with
  | .NZ => 0
  | .Z => 1
  | .NC => 2
  | .C => 3

/-- ALU operation code (R159). -/
def AluOp.ofCode (n : Nat) : AluOp :=
  match n with
  | 0 => .add
  | 1 => .adc
  | 2 => .sub
  | 3 => .sbc
  | 4 => .and
  | 5 => .xor
  | 6 => .or
  | _ => .cp

/-- The code of an ALU operation (R159). -/
def AluOp.code (op : AluOp) : Nat :=
  match op with
  | .add => 0
  | .adc => 1
  | .sub => 2
  | .sbc => 3
  | .and => 4
  | .xor => 5
  | .or => 6
  | .cp => 7

/-- Rotate/shift operation code (R160). -/
def ShiftOp.ofCode (n : Nat) : ShiftOp :=
  match n with
  | 0 => .rlc
  | 1 => .rrc
  | 2 => .rl
  | 3 => .rr
  | 4 => .sla
  | 5 => .sra
  | 6 => .swap
  | _ => .srl

/-- The code of a rotate or shift (R160). -/
def ShiftOp.code (op : ShiftOp) : Nat :=
  match op with
  | .rlc => 0
  | .rrc => 1
  | .rl => 2
  | .rr => 3
  | .sla => 4
  | .sra => 5
  | .swap => 6
  | .srl => 7

/-- The opcode byte whose fields are `x`, `y` and `z` (R154). -/
def opByte (x y z : Nat) : Byte := BitVec.ofNat 8 (x * 64 + y * 8 + z)

/-! ## Families: the row that an operation and its operands name

Each function below picks the constructor of `Instr` that a family and its operand codes stand for. The decoder uses
them, and statements about a whole family are made over them. -/

/-- `LD dst,src` of two operand codes; both `(HL)` is `HALT`, "not a load" (R162). -/
def Instr.ld (dst src : Operand8) : Instr :=
  match dst, src with
  | .reg .B, .reg .B => .ld_B_B
  | .reg .B, .reg .C => .ld_B_C
  | .reg .B, .reg .D => .ld_B_D
  | .reg .B, .reg .E => .ld_B_E
  | .reg .B, .reg .H => .ld_B_H
  | .reg .B, .reg .L => .ld_B_L
  | .reg .B, .indHL => .ld_B_indHL
  | .reg .B, .reg .A => .ld_B_A
  | .reg .C, .reg .B => .ld_C_B
  | .reg .C, .reg .C => .ld_C_C
  | .reg .C, .reg .D => .ld_C_D
  | .reg .C, .reg .E => .ld_C_E
  | .reg .C, .reg .H => .ld_C_H
  | .reg .C, .reg .L => .ld_C_L
  | .reg .C, .indHL => .ld_C_indHL
  | .reg .C, .reg .A => .ld_C_A
  | .reg .D, .reg .B => .ld_D_B
  | .reg .D, .reg .C => .ld_D_C
  | .reg .D, .reg .D => .ld_D_D
  | .reg .D, .reg .E => .ld_D_E
  | .reg .D, .reg .H => .ld_D_H
  | .reg .D, .reg .L => .ld_D_L
  | .reg .D, .indHL => .ld_D_indHL
  | .reg .D, .reg .A => .ld_D_A
  | .reg .E, .reg .B => .ld_E_B
  | .reg .E, .reg .C => .ld_E_C
  | .reg .E, .reg .D => .ld_E_D
  | .reg .E, .reg .E => .ld_E_E
  | .reg .E, .reg .H => .ld_E_H
  | .reg .E, .reg .L => .ld_E_L
  | .reg .E, .indHL => .ld_E_indHL
  | .reg .E, .reg .A => .ld_E_A
  | .reg .H, .reg .B => .ld_H_B
  | .reg .H, .reg .C => .ld_H_C
  | .reg .H, .reg .D => .ld_H_D
  | .reg .H, .reg .E => .ld_H_E
  | .reg .H, .reg .H => .ld_H_H
  | .reg .H, .reg .L => .ld_H_L
  | .reg .H, .indHL => .ld_H_indHL
  | .reg .H, .reg .A => .ld_H_A
  | .reg .L, .reg .B => .ld_L_B
  | .reg .L, .reg .C => .ld_L_C
  | .reg .L, .reg .D => .ld_L_D
  | .reg .L, .reg .E => .ld_L_E
  | .reg .L, .reg .H => .ld_L_H
  | .reg .L, .reg .L => .ld_L_L
  | .reg .L, .indHL => .ld_L_indHL
  | .reg .L, .reg .A => .ld_L_A
  | .indHL, .reg .B => .ld_indHL_B
  | .indHL, .reg .C => .ld_indHL_C
  | .indHL, .reg .D => .ld_indHL_D
  | .indHL, .reg .E => .ld_indHL_E
  | .indHL, .reg .H => .ld_indHL_H
  | .indHL, .reg .L => .ld_indHL_L
  | .indHL, .indHL => .halt
  | .indHL, .reg .A => .ld_indHL_A
  | .reg .A, .reg .B => .ld_A_B
  | .reg .A, .reg .C => .ld_A_C
  | .reg .A, .reg .D => .ld_A_D
  | .reg .A, .reg .E => .ld_A_E
  | .reg .A, .reg .H => .ld_A_H
  | .reg .A, .reg .L => .ld_A_L
  | .reg .A, .indHL => .ld_A_indHL
  | .reg .A, .reg .A => .ld_A_A

/-- `LD r,d8` and `LD (HL),d8` (R161, `z = 6`). -/
def Instr.ldImm (dst : Operand8) (d8 : Byte) : Instr :=
  match dst with
  | .reg .B => .ld_B_d8 d8
  | .reg .C => .ld_C_d8 d8
  | .reg .D => .ld_D_d8 d8
  | .reg .E => .ld_E_d8 d8
  | .reg .H => .ld_H_d8 d8
  | .reg .L => .ld_L_d8 d8
  | .indHL => .ld_indHL_d8 d8
  | .reg .A => .ld_A_d8 d8

/-- The ALU operation on `A` and a register or `(HL)` (R163). -/
def Instr.alu (op : AluOp) (o : Operand8) : Instr :=
  match op, o with
  | .add, .reg .B => .add_A_B
  | .add, .reg .C => .add_A_C
  | .add, .reg .D => .add_A_D
  | .add, .reg .E => .add_A_E
  | .add, .reg .H => .add_A_H
  | .add, .reg .L => .add_A_L
  | .add, .indHL => .add_A_indHL
  | .add, .reg .A => .add_A_A
  | .adc, .reg .B => .adc_A_B
  | .adc, .reg .C => .adc_A_C
  | .adc, .reg .D => .adc_A_D
  | .adc, .reg .E => .adc_A_E
  | .adc, .reg .H => .adc_A_H
  | .adc, .reg .L => .adc_A_L
  | .adc, .indHL => .adc_A_indHL
  | .adc, .reg .A => .adc_A_A
  | .sub, .reg .B => .sub_B
  | .sub, .reg .C => .sub_C
  | .sub, .reg .D => .sub_D
  | .sub, .reg .E => .sub_E
  | .sub, .reg .H => .sub_H
  | .sub, .reg .L => .sub_L
  | .sub, .indHL => .sub_indHL
  | .sub, .reg .A => .sub_A
  | .sbc, .reg .B => .sbc_A_B
  | .sbc, .reg .C => .sbc_A_C
  | .sbc, .reg .D => .sbc_A_D
  | .sbc, .reg .E => .sbc_A_E
  | .sbc, .reg .H => .sbc_A_H
  | .sbc, .reg .L => .sbc_A_L
  | .sbc, .indHL => .sbc_A_indHL
  | .sbc, .reg .A => .sbc_A_A
  | .and, .reg .B => .and_B
  | .and, .reg .C => .and_C
  | .and, .reg .D => .and_D
  | .and, .reg .E => .and_E
  | .and, .reg .H => .and_H
  | .and, .reg .L => .and_L
  | .and, .indHL => .and_indHL
  | .and, .reg .A => .and_A
  | .xor, .reg .B => .xor_B
  | .xor, .reg .C => .xor_C
  | .xor, .reg .D => .xor_D
  | .xor, .reg .E => .xor_E
  | .xor, .reg .H => .xor_H
  | .xor, .reg .L => .xor_L
  | .xor, .indHL => .xor_indHL
  | .xor, .reg .A => .xor_A
  | .or, .reg .B => .or_B
  | .or, .reg .C => .or_C
  | .or, .reg .D => .or_D
  | .or, .reg .E => .or_E
  | .or, .reg .H => .or_H
  | .or, .reg .L => .or_L
  | .or, .indHL => .or_indHL
  | .or, .reg .A => .or_A
  | .cp, .reg .B => .cp_B
  | .cp, .reg .C => .cp_C
  | .cp, .reg .D => .cp_D
  | .cp, .reg .E => .cp_E
  | .cp, .reg .H => .cp_H
  | .cp, .reg .L => .cp_L
  | .cp, .indHL => .cp_indHL
  | .cp, .reg .A => .cp_A

/-- The ALU operation on `A` and `d8` (R164, `z = 6`). -/
def Instr.aluImm (op : AluOp) (d8 : Byte) : Instr :=
  match op with
  | .add => .add_A_d8 d8
  | .adc => .adc_A_d8 d8
  | .sub => .sub_d8 d8
  | .sbc => .sbc_A_d8 d8
  | .and => .and_d8 d8
  | .xor => .xor_d8 d8
  | .or => .or_d8 d8
  | .cp => .cp_d8 d8

/-- `INC r`, `INC (HL)` (R161, `z = 4`). -/
def Instr.inc (o : Operand8) : Instr :=
  match o with
  | .reg .B => .inc_B
  | .reg .C => .inc_C
  | .reg .D => .inc_D
  | .reg .E => .inc_E
  | .reg .H => .inc_H
  | .reg .L => .inc_L
  | .indHL => .inc_indHL
  | .reg .A => .inc_A

/-- `DEC r`, `DEC (HL)` (R161, `z = 5`). -/
def Instr.dec (o : Operand8) : Instr :=
  match o with
  | .reg .B => .dec_B
  | .reg .C => .dec_C
  | .reg .D => .dec_D
  | .reg .E => .dec_E
  | .reg .H => .dec_H
  | .reg .L => .dec_L
  | .indHL => .dec_indHL
  | .reg .A => .dec_A

/-- `LD rr,d16` (R161, `z = 1`, `q = 0`). -/
def Instr.ldPair (rr : Pair) (d16 : Word) : Instr :=
  match rr with
  | .BC => .ld_BC_d16 d16
  | .DE => .ld_DE_d16 d16
  | .HL => .ld_HL_d16 d16
  | .SP => .ld_SP_d16 d16

/-- `ADD HL,rr` (R161, `z = 1`, `q = 1`). -/
def Instr.addHL (rr : Pair) : Instr :=
  match rr with
  | .BC => .add_HL_BC
  | .DE => .add_HL_DE
  | .HL => .add_HL_HL
  | .SP => .add_HL_SP

/-- `INC rr` (R161, `z = 3`, `q = 0`). -/
def Instr.incPair (rr : Pair) : Instr :=
  match rr with
  | .BC => .inc_BC
  | .DE => .inc_DE
  | .HL => .inc_HL
  | .SP => .inc_SP

/-- `DEC rr` (R161, `z = 3`, `q = 1`). -/
def Instr.decPair (rr : Pair) : Instr :=
  match rr with
  | .BC => .dec_BC
  | .DE => .dec_DE
  | .HL => .dec_HL
  | .SP => .dec_SP

/-- `PUSH qq` (R164, `z = 5`, `q = 0`). -/
def Instr.push (qq : StackPair) : Instr :=
  match qq with
  | .BC => .push_BC
  | .DE => .push_DE
  | .HL => .push_HL
  | .AF => .push_AF

/-- `POP qq` (R164, `z = 1`, `q = 0`). -/
def Instr.pop (qq : StackPair) : Instr :=
  match qq with
  | .BC => .pop_BC
  | .DE => .pop_DE
  | .HL => .pop_HL
  | .AF => .pop_AF

/-- `JR cc,e8` (R161, `z = 0`). -/
def Instr.jr (cc : Cond) (e8 : Byte) : Instr :=
  match cc with
  | .NZ => .jr_NZ_e8 e8
  | .Z => .jr_Z_e8 e8
  | .NC => .jr_NC_e8 e8
  | .C => .jr_C_e8 e8

/-- `JP cc,a16` (R164, `z = 2`). -/
def Instr.jp (cc : Cond) (a16 : Word) : Instr :=
  match cc with
  | .NZ => .jp_NZ_a16 a16
  | .Z => .jp_Z_a16 a16
  | .NC => .jp_NC_a16 a16
  | .C => .jp_C_a16 a16

/-- `CALL cc,a16` (R164, `z = 4`). -/
def Instr.call (cc : Cond) (a16 : Word) : Instr :=
  match cc with
  | .NZ => .call_NZ_a16 a16
  | .Z => .call_Z_a16 a16
  | .NC => .call_NC_a16 a16
  | .C => .call_C_a16 a16

/-- `RET cc` (R164, `z = 0`). -/
def Instr.retCond (cc : Cond) : Instr :=
  match cc with
  | .NZ => .ret_NZ
  | .Z => .ret_Z
  | .NC => .ret_NC
  | .C => .ret_C

/-- `RST n` with `n = y * 8` (R164, `z = 7`). -/
def Instr.rst (y : Fin 8) : Instr :=
  match y with
  | 0 => .rst_00H
  | 1 => .rst_08H
  | 2 => .rst_10H
  | 3 => .rst_18H
  | 4 => .rst_20H
  | 5 => .rst_28H
  | 6 => .rst_30H
  | 7 => .rst_38H

/-- The `CB` rotates and shifts on a register or `(HL)` (R165, `x = 0`). -/
def Instr.shift (op : ShiftOp) (o : Operand8) : Instr :=
  match op, o with
  | .rlc, .reg .B => .rlc_B
  | .rlc, .reg .C => .rlc_C
  | .rlc, .reg .D => .rlc_D
  | .rlc, .reg .E => .rlc_E
  | .rlc, .reg .H => .rlc_H
  | .rlc, .reg .L => .rlc_L
  | .rlc, .indHL => .rlc_indHL
  | .rlc, .reg .A => .rlc_A
  | .rrc, .reg .B => .rrc_B
  | .rrc, .reg .C => .rrc_C
  | .rrc, .reg .D => .rrc_D
  | .rrc, .reg .E => .rrc_E
  | .rrc, .reg .H => .rrc_H
  | .rrc, .reg .L => .rrc_L
  | .rrc, .indHL => .rrc_indHL
  | .rrc, .reg .A => .rrc_A
  | .rl, .reg .B => .rl_B
  | .rl, .reg .C => .rl_C
  | .rl, .reg .D => .rl_D
  | .rl, .reg .E => .rl_E
  | .rl, .reg .H => .rl_H
  | .rl, .reg .L => .rl_L
  | .rl, .indHL => .rl_indHL
  | .rl, .reg .A => .rl_A
  | .rr, .reg .B => .rr_B
  | .rr, .reg .C => .rr_C
  | .rr, .reg .D => .rr_D
  | .rr, .reg .E => .rr_E
  | .rr, .reg .H => .rr_H
  | .rr, .reg .L => .rr_L
  | .rr, .indHL => .rr_indHL
  | .rr, .reg .A => .rr_A
  | .sla, .reg .B => .sla_B
  | .sla, .reg .C => .sla_C
  | .sla, .reg .D => .sla_D
  | .sla, .reg .E => .sla_E
  | .sla, .reg .H => .sla_H
  | .sla, .reg .L => .sla_L
  | .sla, .indHL => .sla_indHL
  | .sla, .reg .A => .sla_A
  | .sra, .reg .B => .sra_B
  | .sra, .reg .C => .sra_C
  | .sra, .reg .D => .sra_D
  | .sra, .reg .E => .sra_E
  | .sra, .reg .H => .sra_H
  | .sra, .reg .L => .sra_L
  | .sra, .indHL => .sra_indHL
  | .sra, .reg .A => .sra_A
  | .swap, .reg .B => .swap_B
  | .swap, .reg .C => .swap_C
  | .swap, .reg .D => .swap_D
  | .swap, .reg .E => .swap_E
  | .swap, .reg .H => .swap_H
  | .swap, .reg .L => .swap_L
  | .swap, .indHL => .swap_indHL
  | .swap, .reg .A => .swap_A
  | .srl, .reg .B => .srl_B
  | .srl, .reg .C => .srl_C
  | .srl, .reg .D => .srl_D
  | .srl, .reg .E => .srl_E
  | .srl, .reg .H => .srl_H
  | .srl, .reg .L => .srl_L
  | .srl, .indHL => .srl_indHL
  | .srl, .reg .A => .srl_A

/-- `BIT b,r`, `BIT b,(HL)` (R165, `x = 1`). -/
def Instr.bit (b : Fin 8) (o : Operand8) : Instr :=
  match b, o with
  | 0, .reg .B => .bit_0_B
  | 0, .reg .C => .bit_0_C
  | 0, .reg .D => .bit_0_D
  | 0, .reg .E => .bit_0_E
  | 0, .reg .H => .bit_0_H
  | 0, .reg .L => .bit_0_L
  | 0, .indHL => .bit_0_indHL
  | 0, .reg .A => .bit_0_A
  | 1, .reg .B => .bit_1_B
  | 1, .reg .C => .bit_1_C
  | 1, .reg .D => .bit_1_D
  | 1, .reg .E => .bit_1_E
  | 1, .reg .H => .bit_1_H
  | 1, .reg .L => .bit_1_L
  | 1, .indHL => .bit_1_indHL
  | 1, .reg .A => .bit_1_A
  | 2, .reg .B => .bit_2_B
  | 2, .reg .C => .bit_2_C
  | 2, .reg .D => .bit_2_D
  | 2, .reg .E => .bit_2_E
  | 2, .reg .H => .bit_2_H
  | 2, .reg .L => .bit_2_L
  | 2, .indHL => .bit_2_indHL
  | 2, .reg .A => .bit_2_A
  | 3, .reg .B => .bit_3_B
  | 3, .reg .C => .bit_3_C
  | 3, .reg .D => .bit_3_D
  | 3, .reg .E => .bit_3_E
  | 3, .reg .H => .bit_3_H
  | 3, .reg .L => .bit_3_L
  | 3, .indHL => .bit_3_indHL
  | 3, .reg .A => .bit_3_A
  | 4, .reg .B => .bit_4_B
  | 4, .reg .C => .bit_4_C
  | 4, .reg .D => .bit_4_D
  | 4, .reg .E => .bit_4_E
  | 4, .reg .H => .bit_4_H
  | 4, .reg .L => .bit_4_L
  | 4, .indHL => .bit_4_indHL
  | 4, .reg .A => .bit_4_A
  | 5, .reg .B => .bit_5_B
  | 5, .reg .C => .bit_5_C
  | 5, .reg .D => .bit_5_D
  | 5, .reg .E => .bit_5_E
  | 5, .reg .H => .bit_5_H
  | 5, .reg .L => .bit_5_L
  | 5, .indHL => .bit_5_indHL
  | 5, .reg .A => .bit_5_A
  | 6, .reg .B => .bit_6_B
  | 6, .reg .C => .bit_6_C
  | 6, .reg .D => .bit_6_D
  | 6, .reg .E => .bit_6_E
  | 6, .reg .H => .bit_6_H
  | 6, .reg .L => .bit_6_L
  | 6, .indHL => .bit_6_indHL
  | 6, .reg .A => .bit_6_A
  | 7, .reg .B => .bit_7_B
  | 7, .reg .C => .bit_7_C
  | 7, .reg .D => .bit_7_D
  | 7, .reg .E => .bit_7_E
  | 7, .reg .H => .bit_7_H
  | 7, .reg .L => .bit_7_L
  | 7, .indHL => .bit_7_indHL
  | 7, .reg .A => .bit_7_A

/-- `RES b,r`, `RES b,(HL)` (R165, `x = 2`). -/
def Instr.res (b : Fin 8) (o : Operand8) : Instr :=
  match b, o with
  | 0, .reg .B => .res_0_B
  | 0, .reg .C => .res_0_C
  | 0, .reg .D => .res_0_D
  | 0, .reg .E => .res_0_E
  | 0, .reg .H => .res_0_H
  | 0, .reg .L => .res_0_L
  | 0, .indHL => .res_0_indHL
  | 0, .reg .A => .res_0_A
  | 1, .reg .B => .res_1_B
  | 1, .reg .C => .res_1_C
  | 1, .reg .D => .res_1_D
  | 1, .reg .E => .res_1_E
  | 1, .reg .H => .res_1_H
  | 1, .reg .L => .res_1_L
  | 1, .indHL => .res_1_indHL
  | 1, .reg .A => .res_1_A
  | 2, .reg .B => .res_2_B
  | 2, .reg .C => .res_2_C
  | 2, .reg .D => .res_2_D
  | 2, .reg .E => .res_2_E
  | 2, .reg .H => .res_2_H
  | 2, .reg .L => .res_2_L
  | 2, .indHL => .res_2_indHL
  | 2, .reg .A => .res_2_A
  | 3, .reg .B => .res_3_B
  | 3, .reg .C => .res_3_C
  | 3, .reg .D => .res_3_D
  | 3, .reg .E => .res_3_E
  | 3, .reg .H => .res_3_H
  | 3, .reg .L => .res_3_L
  | 3, .indHL => .res_3_indHL
  | 3, .reg .A => .res_3_A
  | 4, .reg .B => .res_4_B
  | 4, .reg .C => .res_4_C
  | 4, .reg .D => .res_4_D
  | 4, .reg .E => .res_4_E
  | 4, .reg .H => .res_4_H
  | 4, .reg .L => .res_4_L
  | 4, .indHL => .res_4_indHL
  | 4, .reg .A => .res_4_A
  | 5, .reg .B => .res_5_B
  | 5, .reg .C => .res_5_C
  | 5, .reg .D => .res_5_D
  | 5, .reg .E => .res_5_E
  | 5, .reg .H => .res_5_H
  | 5, .reg .L => .res_5_L
  | 5, .indHL => .res_5_indHL
  | 5, .reg .A => .res_5_A
  | 6, .reg .B => .res_6_B
  | 6, .reg .C => .res_6_C
  | 6, .reg .D => .res_6_D
  | 6, .reg .E => .res_6_E
  | 6, .reg .H => .res_6_H
  | 6, .reg .L => .res_6_L
  | 6, .indHL => .res_6_indHL
  | 6, .reg .A => .res_6_A
  | 7, .reg .B => .res_7_B
  | 7, .reg .C => .res_7_C
  | 7, .reg .D => .res_7_D
  | 7, .reg .E => .res_7_E
  | 7, .reg .H => .res_7_H
  | 7, .reg .L => .res_7_L
  | 7, .indHL => .res_7_indHL
  | 7, .reg .A => .res_7_A

/-- `SET b,r`, `SET b,(HL)` (R165, `x = 3`). -/
def Instr.set (b : Fin 8) (o : Operand8) : Instr :=
  match b, o with
  | 0, .reg .B => .set_0_B
  | 0, .reg .C => .set_0_C
  | 0, .reg .D => .set_0_D
  | 0, .reg .E => .set_0_E
  | 0, .reg .H => .set_0_H
  | 0, .reg .L => .set_0_L
  | 0, .indHL => .set_0_indHL
  | 0, .reg .A => .set_0_A
  | 1, .reg .B => .set_1_B
  | 1, .reg .C => .set_1_C
  | 1, .reg .D => .set_1_D
  | 1, .reg .E => .set_1_E
  | 1, .reg .H => .set_1_H
  | 1, .reg .L => .set_1_L
  | 1, .indHL => .set_1_indHL
  | 1, .reg .A => .set_1_A
  | 2, .reg .B => .set_2_B
  | 2, .reg .C => .set_2_C
  | 2, .reg .D => .set_2_D
  | 2, .reg .E => .set_2_E
  | 2, .reg .H => .set_2_H
  | 2, .reg .L => .set_2_L
  | 2, .indHL => .set_2_indHL
  | 2, .reg .A => .set_2_A
  | 3, .reg .B => .set_3_B
  | 3, .reg .C => .set_3_C
  | 3, .reg .D => .set_3_D
  | 3, .reg .E => .set_3_E
  | 3, .reg .H => .set_3_H
  | 3, .reg .L => .set_3_L
  | 3, .indHL => .set_3_indHL
  | 3, .reg .A => .set_3_A
  | 4, .reg .B => .set_4_B
  | 4, .reg .C => .set_4_C
  | 4, .reg .D => .set_4_D
  | 4, .reg .E => .set_4_E
  | 4, .reg .H => .set_4_H
  | 4, .reg .L => .set_4_L
  | 4, .indHL => .set_4_indHL
  | 4, .reg .A => .set_4_A
  | 5, .reg .B => .set_5_B
  | 5, .reg .C => .set_5_C
  | 5, .reg .D => .set_5_D
  | 5, .reg .E => .set_5_E
  | 5, .reg .H => .set_5_H
  | 5, .reg .L => .set_5_L
  | 5, .indHL => .set_5_indHL
  | 5, .reg .A => .set_5_A
  | 6, .reg .B => .set_6_B
  | 6, .reg .C => .set_6_C
  | 6, .reg .D => .set_6_D
  | 6, .reg .E => .set_6_E
  | 6, .reg .H => .set_6_H
  | 6, .reg .L => .set_6_L
  | 6, .indHL => .set_6_indHL
  | 6, .reg .A => .set_6_A
  | 7, .reg .B => .set_7_B
  | 7, .reg .C => .set_7_C
  | 7, .reg .D => .set_7_D
  | 7, .reg .E => .set_7_E
  | 7, .reg .H => .set_7_H
  | 7, .reg .L => .set_7_L
  | 7, .indHL => .set_7_indHL
  | 7, .reg .A => .set_7_A

/-- The eleven opcode values with no instruction, each with its row (30_encoding.md R167). -/
def Instr.unassigned : List (Byte × Instr) :=
  [(0xD3#8, .unassigned_D3), (0xDB#8, .unassigned_DB), (0xDD#8, .unassigned_DD), (0xE3#8, .unassigned_E3),
    (0xE4#8, .unassigned_E4), (0xEB#8, .unassigned_EB), (0xEC#8, .unassigned_EC), (0xED#8, .unassigned_ED),
    (0xF4#8, .unassigned_F4), (0xFC#8, .unassigned_FC), (0xFD#8, .unassigned_FD)]

/-! ## The decoder -/

/-- The field `x = op[7:6]` (R154). -/
def fieldX (op : Byte) : Nat := op.toNat / 64

/-- The field `y = op[5:3]` (R154). -/
def fieldY (op : Byte) : Nat := op.toNat / 8 % 8

/-- The field `z = op[2:0]` (R154). -/
def fieldZ (op : Byte) : Nat := op.toNat % 8

/-- Row `x = 0` of the unprefixed map (R161). -/
def decodeX0 (y z : Nat) (b1 : Byte) (d16 : Word) : Instr :=
  match z with
  | 0 =>
    match y with
    | 0 => .nop
    | 1 => .ld_ind_a16_SP d16
    | 2 => .stop b1
    | 3 => .jr_e8 b1
    | _ => Instr.jr (Cond.ofCode (y - 4)) b1
  | 1 => if y % 2 = 0 then Instr.ldPair (Pair.ofCode (y / 2)) d16 else Instr.addHL (Pair.ofCode (y / 2))
  | 2 =>
    match y with
    | 0 => .ld_indBC_A
    | 1 => .ld_A_indBC
    | 2 => .ld_indDE_A
    | 3 => .ld_A_indDE
    | 4 => .ld_indHLinc_A
    | 5 => .ld_A_indHLinc
    | 6 => .ld_indHLdec_A
    | _ => .ld_A_indHLdec
  | 3 => if y % 2 = 0 then Instr.incPair (Pair.ofCode (y / 2)) else Instr.decPair (Pair.ofCode (y / 2))
  | 4 => Instr.inc (Operand8.ofCode y)
  | 5 => Instr.dec (Operand8.ofCode y)
  | 6 => Instr.ldImm (Operand8.ofCode y) b1
  | _ =>
    match y with
    | 0 => .rlca
    | 1 => .rrca
    | 2 => .rla
    | 3 => .rra
    | 4 => .daa
    | 5 => .cpl
    | 6 => .scf
    | _ => .ccf

/-- The `CB` map: the instruction that the second byte selects (R165). -/
def decodeCB (op2 : Byte) : Instr :=
  match fieldX op2 with
  | 0 => Instr.shift (ShiftOp.ofCode (fieldY op2)) (Operand8.ofCode (fieldZ op2))
  | 1 => Instr.bit (Fin.ofNat 8 (fieldY op2)) (Operand8.ofCode (fieldZ op2))
  | 2 => Instr.res (Fin.ofNat 8 (fieldY op2)) (Operand8.ofCode (fieldZ op2))
  | _ => Instr.set (Fin.ofNat 8 (fieldY op2)) (Operand8.ofCode (fieldZ op2))

/-- Row `x = 3` of the unprefixed map (R164); its unassigned places are those of R167. -/
def decodeX3 (y z : Nat) (b1 : Byte) (d16 : Word) : Instr :=
  match z with
  | 0 =>
    match y with
    | 4 => .ldh_ind_a8_A b1
    | 5 => .add_SP_e8 b1
    | 6 => .ldh_A_ind_a8 b1
    | 7 => .ld_HL_SPe8 b1
    | _ => Instr.retCond (Cond.ofCode y)
  | 1 =>
    if y % 2 = 0 then Instr.pop (StackPair.ofCode (y / 2))
    else
      match y / 2 with
      | 0 => .ret
      | 1 => .reti
      | 2 => .jp_HL
      | _ => .ld_SP_HL
  | 2 =>
    match y with
    | 4 => .ld_indC_A
    | 5 => .ld_ind_a16_A d16
    | 6 => .ld_A_indC
    | 7 => .ld_A_ind_a16 d16
    | _ => Instr.jp (Cond.ofCode y) d16
  | 3 =>
    match y with
    | 0 => .jp_a16 d16
    | 1 => decodeCB b1
    | 2 => .unassigned_D3
    | 3 => .unassigned_DB
    | 4 => .unassigned_E3
    | 5 => .unassigned_EB
    | 6 => .di
    | _ => .ei
  | 4 =>
    match y with
    | 4 => .unassigned_E4
    | 5 => .unassigned_EC
    | 6 => .unassigned_F4
    | 7 => .unassigned_FC
    | _ => Instr.call (Cond.ofCode y) d16
  | 5 =>
    if y % 2 = 0 then Instr.push (StackPair.ofCode (y / 2))
    else
      match y / 2 with
      | 0 => .call_a16 d16
      | 1 => .unassigned_DD
      | 2 => .unassigned_ED
      | _ => .unassigned_FD
  | 6 => Instr.aluImm (AluOp.ofCode y) b1
  | _ => Instr.rst (Fin.ofNat 8 y)

/-- The instruction of an opcode byte and the two bytes after it; a byte beyond the format's length is not looked at
(30_encoding.md R151, R153, R161-R165). Total: "every byte value has a dispatch outcome" (R167). -/
def decodeOp (op b1 b2 : Byte) : Instr :=
  match fieldX op with
  | 0 => decodeX0 (fieldY op) (fieldZ op) b1 (wordOf b2 b1)
  | 1 => Instr.ld (Operand8.ofCode (fieldY op)) (Operand8.ofCode (fieldZ op))
  | 2 => Instr.alu (AluOp.ofCode (fieldY op)) (Operand8.ofCode (fieldZ op))
  | _ => decodeX3 (fieldY op) (fieldZ op) b1 (wordOf b2 b1)

/-- Why a list of bytes holds no instruction. Every first byte is assigned an outcome (R167), so the only reason is that
the list ends before the instruction does. -/
inductive DecodeError where
  /-- There is no byte at all. -/
  | noOpcode
  /-- Byte 0 asks for more bytes than there are (R152). -/
  | truncated (op : Byte)
  deriving DecidableEq, Repr

/-- The instruction at the head of a list of bytes, and the bytes after it. -/
def decode (bytes : List Byte) : Except DecodeError (Instr × List Byte) :=
  match bytes with
  | [] => .error .noOpcode
  | op :: rest =>
    match formatOf op, rest with
    | .op, _ => .ok (decodeOp op 0 0, rest)
    | .op8, b1 :: rest => .ok (decodeOp op b1 0, rest)
    | .cb, b1 :: rest => .ok (decodeOp op b1 0, rest)
    | .op16, b1 :: b2 :: rest => .ok (decodeOp op b1 b2, rest)
    | _, _ => .error (.truncated op)

/-! ## The encoder -/

/-- The bytes of an instruction, in increasing address order (30_encoding.md R152, R166). `PREFIX CB` gives the two bytes
that R375 names; the decoder reads them as the `CB` row they select. -/
def encode (i : Instr) : List Byte :=
  match i with
  | .ld_indBC_A => [0x02]
  | .ld_B_d8 d8 => [0x06, d8]
  | .ld_A_indBC => [0x0A]
  | .ld_C_d8 d8 => [0x0E, d8]
  | .ld_indDE_A => [0x12]
  | .ld_D_d8 d8 => [0x16, d8]
  | .ld_A_indDE => [0x1A]
  | .ld_E_d8 d8 => [0x1E, d8]
  | .ld_indHLinc_A => [0x22]
  | .ld_H_d8 d8 => [0x26, d8]
  | .ld_A_indHLinc => [0x2A]
  | .ld_L_d8 d8 => [0x2E, d8]
  | .ld_indHLdec_A => [0x32]
  | .ld_indHL_d8 d8 => [0x36, d8]
  | .ld_A_indHLdec => [0x3A]
  | .ld_A_d8 d8 => [0x3E, d8]
  | .ld_B_B => [0x40]
  | .ld_B_C => [0x41]
  | .ld_B_D => [0x42]
  | .ld_B_E => [0x43]
  | .ld_B_H => [0x44]
  | .ld_B_L => [0x45]
  | .ld_B_indHL => [0x46]
  | .ld_B_A => [0x47]
  | .ld_C_B => [0x48]
  | .ld_C_C => [0x49]
  | .ld_C_D => [0x4A]
  | .ld_C_E => [0x4B]
  | .ld_C_H => [0x4C]
  | .ld_C_L => [0x4D]
  | .ld_C_indHL => [0x4E]
  | .ld_C_A => [0x4F]
  | .ld_D_B => [0x50]
  | .ld_D_C => [0x51]
  | .ld_D_D => [0x52]
  | .ld_D_E => [0x53]
  | .ld_D_H => [0x54]
  | .ld_D_L => [0x55]
  | .ld_D_indHL => [0x56]
  | .ld_D_A => [0x57]
  | .ld_E_B => [0x58]
  | .ld_E_C => [0x59]
  | .ld_E_D => [0x5A]
  | .ld_E_E => [0x5B]
  | .ld_E_H => [0x5C]
  | .ld_E_L => [0x5D]
  | .ld_E_indHL => [0x5E]
  | .ld_E_A => [0x5F]
  | .ld_H_B => [0x60]
  | .ld_H_C => [0x61]
  | .ld_H_D => [0x62]
  | .ld_H_E => [0x63]
  | .ld_H_H => [0x64]
  | .ld_H_L => [0x65]
  | .ld_H_indHL => [0x66]
  | .ld_H_A => [0x67]
  | .ld_L_B => [0x68]
  | .ld_L_C => [0x69]
  | .ld_L_D => [0x6A]
  | .ld_L_E => [0x6B]
  | .ld_L_H => [0x6C]
  | .ld_L_L => [0x6D]
  | .ld_L_indHL => [0x6E]
  | .ld_L_A => [0x6F]
  | .ld_indHL_B => [0x70]
  | .ld_indHL_C => [0x71]
  | .ld_indHL_D => [0x72]
  | .ld_indHL_E => [0x73]
  | .ld_indHL_H => [0x74]
  | .ld_indHL_L => [0x75]
  | .ld_indHL_A => [0x77]
  | .ld_A_B => [0x78]
  | .ld_A_C => [0x79]
  | .ld_A_D => [0x7A]
  | .ld_A_E => [0x7B]
  | .ld_A_H => [0x7C]
  | .ld_A_L => [0x7D]
  | .ld_A_indHL => [0x7E]
  | .ld_A_A => [0x7F]
  | .ldh_ind_a8_A a8 => [0xE0, a8]
  | .ld_indC_A => [0xE2]
  | .ld_ind_a16_A a16 => [0xEA, loByte a16, hiByte a16]
  | .ldh_A_ind_a8 a8 => [0xF0, a8]
  | .ld_A_indC => [0xF2]
  | .ld_A_ind_a16 a16 => [0xFA, loByte a16, hiByte a16]
  | .ld_BC_d16 d16 => [0x01, loByte d16, hiByte d16]
  | .ld_ind_a16_SP a16 => [0x08, loByte a16, hiByte a16]
  | .ld_DE_d16 d16 => [0x11, loByte d16, hiByte d16]
  | .ld_HL_d16 d16 => [0x21, loByte d16, hiByte d16]
  | .ld_SP_d16 d16 => [0x31, loByte d16, hiByte d16]
  | .pop_BC => [0xC1]
  | .push_BC => [0xC5]
  | .pop_DE => [0xD1]
  | .push_DE => [0xD5]
  | .pop_HL => [0xE1]
  | .push_HL => [0xE5]
  | .pop_AF => [0xF1]
  | .push_AF => [0xF5]
  | .ld_HL_SPe8 e8 => [0xF8, e8]
  | .ld_SP_HL => [0xF9]
  | .inc_B => [0x04]
  | .dec_B => [0x05]
  | .inc_C => [0x0C]
  | .dec_C => [0x0D]
  | .inc_D => [0x14]
  | .dec_D => [0x15]
  | .inc_E => [0x1C]
  | .dec_E => [0x1D]
  | .inc_H => [0x24]
  | .dec_H => [0x25]
  | .daa => [0x27]
  | .inc_L => [0x2C]
  | .dec_L => [0x2D]
  | .cpl => [0x2F]
  | .inc_indHL => [0x34]
  | .dec_indHL => [0x35]
  | .scf => [0x37]
  | .inc_A => [0x3C]
  | .dec_A => [0x3D]
  | .ccf => [0x3F]
  | .add_A_B => [0x80]
  | .add_A_C => [0x81]
  | .add_A_D => [0x82]
  | .add_A_E => [0x83]
  | .add_A_H => [0x84]
  | .add_A_L => [0x85]
  | .add_A_indHL => [0x86]
  | .add_A_A => [0x87]
  | .adc_A_B => [0x88]
  | .adc_A_C => [0x89]
  | .adc_A_D => [0x8A]
  | .adc_A_E => [0x8B]
  | .adc_A_H => [0x8C]
  | .adc_A_L => [0x8D]
  | .adc_A_indHL => [0x8E]
  | .adc_A_A => [0x8F]
  | .sub_B => [0x90]
  | .sub_C => [0x91]
  | .sub_D => [0x92]
  | .sub_E => [0x93]
  | .sub_H => [0x94]
  | .sub_L => [0x95]
  | .sub_indHL => [0x96]
  | .sub_A => [0x97]
  | .sbc_A_B => [0x98]
  | .sbc_A_C => [0x99]
  | .sbc_A_D => [0x9A]
  | .sbc_A_E => [0x9B]
  | .sbc_A_H => [0x9C]
  | .sbc_A_L => [0x9D]
  | .sbc_A_indHL => [0x9E]
  | .sbc_A_A => [0x9F]
  | .and_B => [0xA0]
  | .and_C => [0xA1]
  | .and_D => [0xA2]
  | .and_E => [0xA3]
  | .and_H => [0xA4]
  | .and_L => [0xA5]
  | .and_indHL => [0xA6]
  | .and_A => [0xA7]
  | .xor_B => [0xA8]
  | .xor_C => [0xA9]
  | .xor_D => [0xAA]
  | .xor_E => [0xAB]
  | .xor_H => [0xAC]
  | .xor_L => [0xAD]
  | .xor_indHL => [0xAE]
  | .xor_A => [0xAF]
  | .or_B => [0xB0]
  | .or_C => [0xB1]
  | .or_D => [0xB2]
  | .or_E => [0xB3]
  | .or_H => [0xB4]
  | .or_L => [0xB5]
  | .or_indHL => [0xB6]
  | .or_A => [0xB7]
  | .cp_B => [0xB8]
  | .cp_C => [0xB9]
  | .cp_D => [0xBA]
  | .cp_E => [0xBB]
  | .cp_H => [0xBC]
  | .cp_L => [0xBD]
  | .cp_indHL => [0xBE]
  | .cp_A => [0xBF]
  | .add_A_d8 d8 => [0xC6, d8]
  | .adc_A_d8 d8 => [0xCE, d8]
  | .sub_d8 d8 => [0xD6, d8]
  | .sbc_A_d8 d8 => [0xDE, d8]
  | .and_d8 d8 => [0xE6, d8]
  | .xor_d8 d8 => [0xEE, d8]
  | .or_d8 d8 => [0xF6, d8]
  | .cp_d8 d8 => [0xFE, d8]
  | .inc_BC => [0x03]
  | .add_HL_BC => [0x09]
  | .dec_BC => [0x0B]
  | .inc_DE => [0x13]
  | .add_HL_DE => [0x19]
  | .dec_DE => [0x1B]
  | .inc_HL => [0x23]
  | .add_HL_HL => [0x29]
  | .dec_HL => [0x2B]
  | .inc_SP => [0x33]
  | .add_HL_SP => [0x39]
  | .dec_SP => [0x3B]
  | .add_SP_e8 e8 => [0xE8, e8]
  | .rlca => [0x07]
  | .rrca => [0x0F]
  | .rla => [0x17]
  | .rra => [0x1F]
  | .rlc_B => [0xCB, 0x00]
  | .rlc_C => [0xCB, 0x01]
  | .rlc_D => [0xCB, 0x02]
  | .rlc_E => [0xCB, 0x03]
  | .rlc_H => [0xCB, 0x04]
  | .rlc_L => [0xCB, 0x05]
  | .rlc_indHL => [0xCB, 0x06]
  | .rlc_A => [0xCB, 0x07]
  | .rrc_B => [0xCB, 0x08]
  | .rrc_C => [0xCB, 0x09]
  | .rrc_D => [0xCB, 0x0A]
  | .rrc_E => [0xCB, 0x0B]
  | .rrc_H => [0xCB, 0x0C]
  | .rrc_L => [0xCB, 0x0D]
  | .rrc_indHL => [0xCB, 0x0E]
  | .rrc_A => [0xCB, 0x0F]
  | .rl_B => [0xCB, 0x10]
  | .rl_C => [0xCB, 0x11]
  | .rl_D => [0xCB, 0x12]
  | .rl_E => [0xCB, 0x13]
  | .rl_H => [0xCB, 0x14]
  | .rl_L => [0xCB, 0x15]
  | .rl_indHL => [0xCB, 0x16]
  | .rl_A => [0xCB, 0x17]
  | .rr_B => [0xCB, 0x18]
  | .rr_C => [0xCB, 0x19]
  | .rr_D => [0xCB, 0x1A]
  | .rr_E => [0xCB, 0x1B]
  | .rr_H => [0xCB, 0x1C]
  | .rr_L => [0xCB, 0x1D]
  | .rr_indHL => [0xCB, 0x1E]
  | .rr_A => [0xCB, 0x1F]
  | .sla_B => [0xCB, 0x20]
  | .sla_C => [0xCB, 0x21]
  | .sla_D => [0xCB, 0x22]
  | .sla_E => [0xCB, 0x23]
  | .sla_H => [0xCB, 0x24]
  | .sla_L => [0xCB, 0x25]
  | .sla_indHL => [0xCB, 0x26]
  | .sla_A => [0xCB, 0x27]
  | .sra_B => [0xCB, 0x28]
  | .sra_C => [0xCB, 0x29]
  | .sra_D => [0xCB, 0x2A]
  | .sra_E => [0xCB, 0x2B]
  | .sra_H => [0xCB, 0x2C]
  | .sra_L => [0xCB, 0x2D]
  | .sra_indHL => [0xCB, 0x2E]
  | .sra_A => [0xCB, 0x2F]
  | .swap_B => [0xCB, 0x30]
  | .swap_C => [0xCB, 0x31]
  | .swap_D => [0xCB, 0x32]
  | .swap_E => [0xCB, 0x33]
  | .swap_H => [0xCB, 0x34]
  | .swap_L => [0xCB, 0x35]
  | .swap_indHL => [0xCB, 0x36]
  | .swap_A => [0xCB, 0x37]
  | .srl_B => [0xCB, 0x38]
  | .srl_C => [0xCB, 0x39]
  | .srl_D => [0xCB, 0x3A]
  | .srl_E => [0xCB, 0x3B]
  | .srl_H => [0xCB, 0x3C]
  | .srl_L => [0xCB, 0x3D]
  | .srl_indHL => [0xCB, 0x3E]
  | .srl_A => [0xCB, 0x3F]
  | .bit_0_B => [0xCB, 0x40]
  | .bit_0_C => [0xCB, 0x41]
  | .bit_0_D => [0xCB, 0x42]
  | .bit_0_E => [0xCB, 0x43]
  | .bit_0_H => [0xCB, 0x44]
  | .bit_0_L => [0xCB, 0x45]
  | .bit_0_indHL => [0xCB, 0x46]
  | .bit_0_A => [0xCB, 0x47]
  | .bit_1_B => [0xCB, 0x48]
  | .bit_1_C => [0xCB, 0x49]
  | .bit_1_D => [0xCB, 0x4A]
  | .bit_1_E => [0xCB, 0x4B]
  | .bit_1_H => [0xCB, 0x4C]
  | .bit_1_L => [0xCB, 0x4D]
  | .bit_1_indHL => [0xCB, 0x4E]
  | .bit_1_A => [0xCB, 0x4F]
  | .bit_2_B => [0xCB, 0x50]
  | .bit_2_C => [0xCB, 0x51]
  | .bit_2_D => [0xCB, 0x52]
  | .bit_2_E => [0xCB, 0x53]
  | .bit_2_H => [0xCB, 0x54]
  | .bit_2_L => [0xCB, 0x55]
  | .bit_2_indHL => [0xCB, 0x56]
  | .bit_2_A => [0xCB, 0x57]
  | .bit_3_B => [0xCB, 0x58]
  | .bit_3_C => [0xCB, 0x59]
  | .bit_3_D => [0xCB, 0x5A]
  | .bit_3_E => [0xCB, 0x5B]
  | .bit_3_H => [0xCB, 0x5C]
  | .bit_3_L => [0xCB, 0x5D]
  | .bit_3_indHL => [0xCB, 0x5E]
  | .bit_3_A => [0xCB, 0x5F]
  | .bit_4_B => [0xCB, 0x60]
  | .bit_4_C => [0xCB, 0x61]
  | .bit_4_D => [0xCB, 0x62]
  | .bit_4_E => [0xCB, 0x63]
  | .bit_4_H => [0xCB, 0x64]
  | .bit_4_L => [0xCB, 0x65]
  | .bit_4_indHL => [0xCB, 0x66]
  | .bit_4_A => [0xCB, 0x67]
  | .bit_5_B => [0xCB, 0x68]
  | .bit_5_C => [0xCB, 0x69]
  | .bit_5_D => [0xCB, 0x6A]
  | .bit_5_E => [0xCB, 0x6B]
  | .bit_5_H => [0xCB, 0x6C]
  | .bit_5_L => [0xCB, 0x6D]
  | .bit_5_indHL => [0xCB, 0x6E]
  | .bit_5_A => [0xCB, 0x6F]
  | .bit_6_B => [0xCB, 0x70]
  | .bit_6_C => [0xCB, 0x71]
  | .bit_6_D => [0xCB, 0x72]
  | .bit_6_E => [0xCB, 0x73]
  | .bit_6_H => [0xCB, 0x74]
  | .bit_6_L => [0xCB, 0x75]
  | .bit_6_indHL => [0xCB, 0x76]
  | .bit_6_A => [0xCB, 0x77]
  | .bit_7_B => [0xCB, 0x78]
  | .bit_7_C => [0xCB, 0x79]
  | .bit_7_D => [0xCB, 0x7A]
  | .bit_7_E => [0xCB, 0x7B]
  | .bit_7_H => [0xCB, 0x7C]
  | .bit_7_L => [0xCB, 0x7D]
  | .bit_7_indHL => [0xCB, 0x7E]
  | .bit_7_A => [0xCB, 0x7F]
  | .res_0_B => [0xCB, 0x80]
  | .res_0_C => [0xCB, 0x81]
  | .res_0_D => [0xCB, 0x82]
  | .res_0_E => [0xCB, 0x83]
  | .res_0_H => [0xCB, 0x84]
  | .res_0_L => [0xCB, 0x85]
  | .res_0_indHL => [0xCB, 0x86]
  | .res_0_A => [0xCB, 0x87]
  | .res_1_B => [0xCB, 0x88]
  | .res_1_C => [0xCB, 0x89]
  | .res_1_D => [0xCB, 0x8A]
  | .res_1_E => [0xCB, 0x8B]
  | .res_1_H => [0xCB, 0x8C]
  | .res_1_L => [0xCB, 0x8D]
  | .res_1_indHL => [0xCB, 0x8E]
  | .res_1_A => [0xCB, 0x8F]
  | .res_2_B => [0xCB, 0x90]
  | .res_2_C => [0xCB, 0x91]
  | .res_2_D => [0xCB, 0x92]
  | .res_2_E => [0xCB, 0x93]
  | .res_2_H => [0xCB, 0x94]
  | .res_2_L => [0xCB, 0x95]
  | .res_2_indHL => [0xCB, 0x96]
  | .res_2_A => [0xCB, 0x97]
  | .res_3_B => [0xCB, 0x98]
  | .res_3_C => [0xCB, 0x99]
  | .res_3_D => [0xCB, 0x9A]
  | .res_3_E => [0xCB, 0x9B]
  | .res_3_H => [0xCB, 0x9C]
  | .res_3_L => [0xCB, 0x9D]
  | .res_3_indHL => [0xCB, 0x9E]
  | .res_3_A => [0xCB, 0x9F]
  | .res_4_B => [0xCB, 0xA0]
  | .res_4_C => [0xCB, 0xA1]
  | .res_4_D => [0xCB, 0xA2]
  | .res_4_E => [0xCB, 0xA3]
  | .res_4_H => [0xCB, 0xA4]
  | .res_4_L => [0xCB, 0xA5]
  | .res_4_indHL => [0xCB, 0xA6]
  | .res_4_A => [0xCB, 0xA7]
  | .res_5_B => [0xCB, 0xA8]
  | .res_5_C => [0xCB, 0xA9]
  | .res_5_D => [0xCB, 0xAA]
  | .res_5_E => [0xCB, 0xAB]
  | .res_5_H => [0xCB, 0xAC]
  | .res_5_L => [0xCB, 0xAD]
  | .res_5_indHL => [0xCB, 0xAE]
  | .res_5_A => [0xCB, 0xAF]
  | .res_6_B => [0xCB, 0xB0]
  | .res_6_C => [0xCB, 0xB1]
  | .res_6_D => [0xCB, 0xB2]
  | .res_6_E => [0xCB, 0xB3]
  | .res_6_H => [0xCB, 0xB4]
  | .res_6_L => [0xCB, 0xB5]
  | .res_6_indHL => [0xCB, 0xB6]
  | .res_6_A => [0xCB, 0xB7]
  | .res_7_B => [0xCB, 0xB8]
  | .res_7_C => [0xCB, 0xB9]
  | .res_7_D => [0xCB, 0xBA]
  | .res_7_E => [0xCB, 0xBB]
  | .res_7_H => [0xCB, 0xBC]
  | .res_7_L => [0xCB, 0xBD]
  | .res_7_indHL => [0xCB, 0xBE]
  | .res_7_A => [0xCB, 0xBF]
  | .set_0_B => [0xCB, 0xC0]
  | .set_0_C => [0xCB, 0xC1]
  | .set_0_D => [0xCB, 0xC2]
  | .set_0_E => [0xCB, 0xC3]
  | .set_0_H => [0xCB, 0xC4]
  | .set_0_L => [0xCB, 0xC5]
  | .set_0_indHL => [0xCB, 0xC6]
  | .set_0_A => [0xCB, 0xC7]
  | .set_1_B => [0xCB, 0xC8]
  | .set_1_C => [0xCB, 0xC9]
  | .set_1_D => [0xCB, 0xCA]
  | .set_1_E => [0xCB, 0xCB]
  | .set_1_H => [0xCB, 0xCC]
  | .set_1_L => [0xCB, 0xCD]
  | .set_1_indHL => [0xCB, 0xCE]
  | .set_1_A => [0xCB, 0xCF]
  | .set_2_B => [0xCB, 0xD0]
  | .set_2_C => [0xCB, 0xD1]
  | .set_2_D => [0xCB, 0xD2]
  | .set_2_E => [0xCB, 0xD3]
  | .set_2_H => [0xCB, 0xD4]
  | .set_2_L => [0xCB, 0xD5]
  | .set_2_indHL => [0xCB, 0xD6]
  | .set_2_A => [0xCB, 0xD7]
  | .set_3_B => [0xCB, 0xD8]
  | .set_3_C => [0xCB, 0xD9]
  | .set_3_D => [0xCB, 0xDA]
  | .set_3_E => [0xCB, 0xDB]
  | .set_3_H => [0xCB, 0xDC]
  | .set_3_L => [0xCB, 0xDD]
  | .set_3_indHL => [0xCB, 0xDE]
  | .set_3_A => [0xCB, 0xDF]
  | .set_4_B => [0xCB, 0xE0]
  | .set_4_C => [0xCB, 0xE1]
  | .set_4_D => [0xCB, 0xE2]
  | .set_4_E => [0xCB, 0xE3]
  | .set_4_H => [0xCB, 0xE4]
  | .set_4_L => [0xCB, 0xE5]
  | .set_4_indHL => [0xCB, 0xE6]
  | .set_4_A => [0xCB, 0xE7]
  | .set_5_B => [0xCB, 0xE8]
  | .set_5_C => [0xCB, 0xE9]
  | .set_5_D => [0xCB, 0xEA]
  | .set_5_E => [0xCB, 0xEB]
  | .set_5_H => [0xCB, 0xEC]
  | .set_5_L => [0xCB, 0xED]
  | .set_5_indHL => [0xCB, 0xEE]
  | .set_5_A => [0xCB, 0xEF]
  | .set_6_B => [0xCB, 0xF0]
  | .set_6_C => [0xCB, 0xF1]
  | .set_6_D => [0xCB, 0xF2]
  | .set_6_E => [0xCB, 0xF3]
  | .set_6_H => [0xCB, 0xF4]
  | .set_6_L => [0xCB, 0xF5]
  | .set_6_indHL => [0xCB, 0xF6]
  | .set_6_A => [0xCB, 0xF7]
  | .set_7_B => [0xCB, 0xF8]
  | .set_7_C => [0xCB, 0xF9]
  | .set_7_D => [0xCB, 0xFA]
  | .set_7_E => [0xCB, 0xFB]
  | .set_7_H => [0xCB, 0xFC]
  | .set_7_L => [0xCB, 0xFD]
  | .set_7_indHL => [0xCB, 0xFE]
  | .set_7_A => [0xCB, 0xFF]
  | .jr_e8 e8 => [0x18, e8]
  | .jr_NZ_e8 e8 => [0x20, e8]
  | .jr_Z_e8 e8 => [0x28, e8]
  | .jr_NC_e8 e8 => [0x30, e8]
  | .jr_C_e8 e8 => [0x38, e8]
  | .ret_NZ => [0xC0]
  | .jp_NZ_a16 a16 => [0xC2, loByte a16, hiByte a16]
  | .jp_a16 a16 => [0xC3, loByte a16, hiByte a16]
  | .call_NZ_a16 a16 => [0xC4, loByte a16, hiByte a16]
  | .rst_00H => [0xC7]
  | .ret_Z => [0xC8]
  | .ret => [0xC9]
  | .jp_Z_a16 a16 => [0xCA, loByte a16, hiByte a16]
  | .call_Z_a16 a16 => [0xCC, loByte a16, hiByte a16]
  | .call_a16 a16 => [0xCD, loByte a16, hiByte a16]
  | .rst_08H => [0xCF]
  | .ret_NC => [0xD0]
  | .jp_NC_a16 a16 => [0xD2, loByte a16, hiByte a16]
  | .call_NC_a16 a16 => [0xD4, loByte a16, hiByte a16]
  | .rst_10H => [0xD7]
  | .ret_C => [0xD8]
  | .reti => [0xD9]
  | .jp_C_a16 a16 => [0xDA, loByte a16, hiByte a16]
  | .call_C_a16 a16 => [0xDC, loByte a16, hiByte a16]
  | .rst_18H => [0xDF]
  | .rst_20H => [0xE7]
  | .jp_HL => [0xE9]
  | .rst_28H => [0xEF]
  | .rst_30H => [0xF7]
  | .rst_38H => [0xFF]
  | .nop => [0x00]
  | .stop ignored => [0x10, ignored]
  | .halt => [0x76]
  | .prefix_CB op2 => [0xCB, op2]
  | .unassigned_D3 => [0xD3]
  | .unassigned_DB => [0xDB]
  | .unassigned_DD => [0xDD]
  | .unassigned_E3 => [0xE3]
  | .unassigned_E4 => [0xE4]
  | .unassigned_EB => [0xEB]
  | .unassigned_EC => [0xEC]
  | .unassigned_ED => [0xED]
  | .di => [0xF3]
  | .unassigned_F4 => [0xF4]
  | .ei => [0xFB]
  | .unassigned_FC => [0xFC]
  | .unassigned_FD => [0xFD]

/-- The length in bytes of an instruction (R152). -/
def Instr.length (i : Instr) : Nat := (encode i).length

/-! ## The opcode table's words -/

/-- The first three bytes of an instruction whose bits are `w`, every bit above `nbits` zero, as spec/opcode_table.json
numbers them: a `CB` row's word is `byte0 * 0x100 + byte1` (30_encoding.md, opening), every other word has byte 0 in its
low byte (log 8). -/
def tableBytes (nbits w : Nat) : Byte × Byte × Byte :=
  let v := w % 2 ^ nbits
  if nbits = 16 ∧ v / 0x100 = 0xCB then (0xCB, BitVec.ofNat 8 v, 0)
  else (BitVec.ofNat 8 v, BitVec.ofNat 8 (v / 0x100), BitVec.ofNat 8 (v / 0x10000))

/-- The instruction the decoder reads from the opcode-table word `w` of `nbits` bits. -/
def decodeTableWord (nbits w : Nat) : Option Instr :=
  let (b0, b1, b2) := tableBytes nbits w
  match decode [b0, b1, b2] with
  | .ok (i, _) => some i
  | .error _ => none

end Sys2Proof
end

