-- ==== Sys2Proof/Config.lean ====
section
/-! DEFINITION. The parameters the model takes as arguments (spec 00_scope.md R5, 92_eei_decisions.md), as plain data.
They are fixed for the life of a console instance and are carried in the state, so that a statement over every state
holds for every value of them. There is no free value: the spec leaves none open. -/
namespace Sys2Proof

/-- One grey level of `SHADE`, an RGB triple (00_scope.md R5, 51_ppu.md R446). -/
structure Rgb where
  r : Byte
  g : Byte
  b : Byte
  deriving DecidableEq, Repr

/-- The open parameters of 00_scope.md R5 that are not images: `COLOR_MODE_NO_BOOT`, `IO_INIT`, `JOYPAD_LOW`,
`SHADE[0..3]`. `IO_INIT` is held as the cells of the 128-byte block that are not zero, addresses rising. -/
structure Config where
  colorModeNoBoot : Bool
  ioInit : List Host.Cell
  joypadLow : BitVec 4
  shade0 : Rgb
  shade1 : Rgb
  shade2 : Rgb
  shade3 : Rgb
  deriving DecidableEq, Repr

/-- The defaults of 00_scope.md R5: `COLOR_MODE_NO_BOOT` false (D10), `IO_INIT` all zero (D20), `JOYPAD_LOW` 0xF (D14),
`SHADE` FFFFFF, AAAAAA, 555555, 000000 (D23). -/
def Config.default : Config where
  colorModeNoBoot := false
  ioInit := []
  joypadLow := 0xF#4
  shade0 := ⟨0xFF#8, 0xFF#8, 0xFF#8⟩
  shade1 := ⟨0xAA#8, 0xAA#8, 0xAA#8⟩
  shade2 := ⟨0x55#8, 0x55#8, 0x55#8⟩
  shade3 := ⟨0x00#8, 0x00#8, 0x00#8⟩

/-- `SHADE[i]` for a two-bit palette value (51_ppu.md R446). -/
def Config.shade (c : Config) (i : Nat) : Rgb :=
  match i with
  | 0 => c.shade0
  | 1 => c.shade1
  | 2 => c.shade2
  | _ => c.shade3

end Sys2Proof
end

