-- ==== Sys2Proof/Machine/Memory.lean ====
section
/-! DEFINITION. A byte array as plain data: the list of its cells that do not hold 0x00, addresses strictly rising. Every
array of spec 10_state.md R29 is one of these; an unlisted cell reads 0x00, the value R60 gives every RAM cell at
construction (log 6). -/
namespace Sys2Proof.Machine

/-- The cells of an array that are not zero, addresses strictly rising. -/
abbrev Memory := List Host.Cell

/-- What an unlisted cell reads as (10_state.md R60, R61; log 6). -/
def Memory.unlisted : Byte := 0x00#8

/-- The byte at cell `k`. -/
def Memory.read : Memory → Nat → Byte
  | [], _ => Memory.unlisted
  | (j, v) :: m, k => if j = k then v else Memory.read m k

/-- The cell list `m` with `(k, v)` at its head, unless `v` is what an unlisted cell reads as. -/
def Memory.consCell (k : Nat) (v : Byte) (m : Memory) : Memory :=
  if v = Memory.unlisted then m else (k, v) :: m

/-- The array with byte `v` at cell `k`. -/
def Memory.write : Memory → Nat → Byte → Memory
  | [], k, v => Memory.consCell k v []
  | (j, x) :: m, k, v =>
    if k < j then Memory.consCell k v ((j, x) :: m)
    else if k = j then Memory.consCell k v m
    else (j, x) :: Memory.write m k v

/-- The cells of a run of bytes whose first byte is at cell `base`. -/
def Memory.ofBytes (base : Nat) : List Byte → Memory
  | [] => []
  | v :: bs => Memory.consCell base v (Memory.ofBytes (base + 1) bs)

/-- The array with the bytes `bs` at `base`, `base + 1`, ..., written in one pass. -/
def Memory.writeBlock (m : Memory) (base : Nat) (bs : List Byte) : Memory :=
  m.filter (fun c => c.1 < base) ++ Memory.ofBytes base bs ++ m.filter (fun c => base + bs.length ≤ c.1)

/-- Canonical from cell `lo` on: addresses strictly rising from `lo`, and no cell lists what an unlisted cell reads as. -/
def Memory.wfFrom : Nat → Memory → Bool
  | _, [] => true
  | lo, (j, v) :: m => decide (lo ≤ j) && decide (v ≠ Memory.unlisted) && Memory.wfFrom (j + 1) m

/-- The canonical form of an array. -/
def Memory.wf (m : Memory) : Bool := Memory.wfFrom 0 m

/-- Every listed cell is below `size`, the size of the array. -/
def Memory.below (size : Nat) (m : Memory) : Bool := m.all (fun c => decide (c.1 < size))

end Sys2Proof.Machine
end

