-- ==== Sys2Proof/Machine/State.lean ====
section
/-! DEFINITION. The state of one console instance, as plain data (spec 10_state.md: "All state of one console instance is
listed here. Nothing else is state"), with the images and parameters that spec 00_scope.md R5 calls configuration held
beside it (log 3), the faults, and the state after reset. -/
namespace Sys2Proof.Machine

/-- The run-time faults (60_exceptions.md R500, 10_state.md R28). The machine records one in `State.fault` and changes
nothing more until the host's `reset()` (R501); a step of a machine that has one answers it. All three are the spec's
own error states, so each is safe: the model stops where the spec says the console halts and reports. -/
inductive Fault where
  /-- `AddressError(a)`: a bus read of cartridge ROM space beyond the image, or `LD (a16),SP` with `a16 = 0xFFFF`
  (payload 0x10000). Raised by the bus and by `LD (a16),SP` (R502). Safe: the spec's own stop. -/
  | addressError (a : Nat)
  /-- `OpcodeError(op, pc0)`: one of the eleven unassigned opcode values. Raised by those rows (R503). Safe. -/
  | opcodeError (op : Byte) (pc0 : Word)
  /-- `StackError(sp)`: a push with `sp < 2` or a pop with `sp > 0xFFFD`. Raised by the stack primitives, at interrupt
  dispatch too (R504). Safe. -/
  | stackError (sp : Word)
  deriving DecidableEq, Repr

/-- What the model turns away by name. -/
inductive Refusal where
  /-- No meaning for this row of the opcode table. Raised by `exec` alone, by no arm of it now; safe. -/
  | notModelled (mnemonic : String)
  deriving DecidableEq, Repr

/-- The seven 8-bit general registers (10_state.md R20). -/
structure Regs where
  a : Byte
  b : Byte
  c : Byte
  d : Byte
  e : Byte
  h : Byte
  l : Byte
  deriving DecidableEq, Repr

/-- The "four independent booleans (zero, subtract, half-carry, carry)" (10_state.md R23). -/
structure Flags where
  z : Bool
  n : Bool
  h : Bool
  c : Bool
  deriving DecidableEq, Repr

/-- The CPU's run state (10_state.md R27). -/
inductive RunState where
  | running | halted | stopped
  deriving DecidableEq, Repr

/-- The PPU's mode (10_state.md R33). -/
inductive PpuMode where
  | hblank | vblank | oam | transfer
  deriving DecidableEq, Repr

/-- The bank-controller variants (10_state.md R31, 20_memory.md R106). -/
inductive Mbc where
  | romOnly | mbc1 | mbc3 | mbc5 | mbc30
  deriving DecidableEq, Repr

/-- An immutable byte image: its length, and its cells that are not zero (10_state.md R29, `ROM` and `BOOT`). -/
structure Image where
  size : Nat
  cells : Memory
  deriving DecidableEq, Repr

/-- The bank controller's registers (10_state.md R31). -/
structure BankRegs where
  romBank : BitVec 9
  ramBank : BitVec 4
  ramEnable : Bool
  mbc1Mode : Bool
  deriving DecidableEq, Repr

/-- The writable byte arrays (10_state.md R29). A banked array is one run of cells, bank after bank: cell
`b * 0x2000 + i` of `vram` and `xram`, cell `b * 0x1000 + i` of `wram`. -/
structure Arrays where
  vram : Memory
  wram : Memory
  oam : Memory
  io : Memory
  wave : Memory
  hram : Memory
  xram : Memory
  fb : Memory
  deriving DecidableEq, Repr

/-- What `loadCartridge` fixes: the ROM image, the bank-controller variant, the number of cartridge-RAM banks
(10_state.md R31, 20_memory.md R120). -/
structure Cartridge where
  rom : Image
  mbc : Mbc
  ramBanks : Nat
  deriving DecidableEq, Repr

/-- The state of one console instance (10_state.md R60's rows), and what the host has loaded into it. -/
structure State where
  /-- `A B C D E H L` (R20). -/
  regs : Regs
  /-- `Z N H C` (R23). -/
  flags : Flags
  /-- Stack pointer (R22). -/
  sp : Word
  /-- Program counter: between instructions, the address of the next opcode byte (R22). -/
  pc : Word
  /-- Interrupt master enable (R25). -/
  ime : Bool
  /-- The EI-delay flag `ei_pending` (R26). -/
  eiPending : Bool
  /-- Run state (R27). -/
  run : RunState
  /-- `fault` (R28). -/
  fault : Option Fault
  /-- The boot-ROM overlay is mapped (R30). -/
  bootActive : Bool
  /-- Bank-controller registers (R31). -/
  bank : BankRegs
  /-- Memory arrays (R29). -/
  mem : Arrays
  /-- The interrupt-enable byte's five bits (R29, R57). -/
  ie : BitVec 5
  /-- `clk.total` (R32). -/
  clkTotal : Nat
  /-- `clk.mode` (R32). -/
  clkMode : Nat
  /-- `ppu.mode` (R33). -/
  ppuMode : PpuMode
  /-- The cartridge, fixed at load (R29, R31). -/
  cart : Cartridge
  /-- The boot-ROM image, or none (R29). -/
  boot : Option Image
  /-- The parameters (00_scope.md R5). -/
  cfg : Config
  deriving DecidableEq, Repr

/-- The I/O block at construction: `IO_INIT`, with `JOYPAD_LOW` in the low nibble of `P1` (10_state.md R60). -/
def Arrays.initialIo (cfg : Config) : Memory :=
  Memory.write cfg.ioInit 0x00 ((Memory.read cfg.ioInit 0x00 &&& 0xF0#8) ||| cfg.joypadLow.setWidth 8)

/-- Construction (10_state.md R60, column `construct`; 70_reset_and_hazards.md R601): no cartridge, no boot ROM. -/
def State.construct (cfg : Config) : State where
  regs := { a := 0x00#8, b := 0x00#8, c := 0x00#8, d := 0x00#8, e := 0x00#8, h := 0x00#8, l := 0x00#8 }
  flags := { z := false, n := false, h := false, c := false }
  sp := 0x0000#16
  pc := 0x0000#16
  ime := false
  eiPending := false
  run := .running
  fault := none
  bootActive := false
  bank := { romBank := 1#9, ramBank := 0#4, ramEnable := false, mbc1Mode := false }
  mem := { vram := [], wram := [], oam := [], io := Arrays.initialIo cfg, wave := [], hram := [], xram := [], fb := [] }
  ie := 0#5
  clkTotal := 0
  clkMode := 0
  ppuMode := .oam
  cart := { rom := { size := 0, cells := [] }, mbc := .romOnly, ramBanks := 0 }
  boot := none
  cfg := cfg

/-- The machine right after reset: a console constructed with the default parameters and started with no boot ROM, "before
the first tick" (10_state.md R60, columns `construct` and `start-nb`; log 1). No cartridge is loaded (log 2). -/
def State.reset : State :=
  { State.construct Config.default with
    regs := { a := 0x01#8, b := 0x00#8, c := 0x13#8, d := 0x00#8, e := 0xD8#8, h := 0x01#8, l := 0x4D#8 }
    flags := { z := true, n := false, h := true, c := true }
    sp := 0xFFFE#16
    pc := 0x0100#16 }

end Sys2Proof.Machine
end

