-- ==== Sys2Proof/Machine/Ops.lean ====
section
/-! DEFINITION. The named operations over registers and memory that every meaning is written with: updates of one field,
the bank controller's translation, the bus (`BusRead`, `BusWrite`), raising a fault, the stack primitives, taking an
interrupt and returning from one, and fetching an instruction (spec 20_memory.md, 60_exceptions.md, 30_encoding.md). -/
namespace Sys2Proof.Machine

/-- The answer of a step, a meaning or `exec`. -/
abbrev Result := Host.Outcome State Fault Refusal

/-! ## Updates of one field -/

/-- `x[r]` (00_scope.md R7). -/
def Regs.get (r : Regs) : Reg8 → Byte
  | .A => r.a
  | .B => r.b
  | .C => r.c
  | .D => r.d
  | .E => r.e
  | .H => r.h
  | .L => r.l

/-- `x[r] <- v` (00_scope.md R7). -/
def Regs.set (r : Regs) (i : Reg8) (v : Byte) : Regs :=
  match i with
  | .A => { r with a := v }
  | .B => { r with b := v }
  | .C => { r with c := v }
  | .D => { r with d := v }
  | .E => { r with e := v }
  | .H => { r with h := v }
  | .L => { r with l := v }

/-- `x[r]`. -/
def State.reg (s : State) (r : Reg8) : Byte := s.regs.get r

/-- `x[r] <- v`. -/
def State.setReg (s : State) (r : Reg8) (v : Byte) : State := { s with regs := s.regs.set r v }

/-- All four flags written. -/
def State.setFlags (s : State) (f : Flags) : State := { s with flags := f }

/-- `sp <- v`. -/
def State.setSp (s : State) (v : Word) : State := { s with sp := v }

/-- `advance(n)` (50_clock_scheduler.md R401). -/
def State.advance (s : State) (n : Nat) : State := { s with clkTotal := s.clkTotal + n }

/-- The end of an instruction that does not transfer control: `pc <- next` with `next = (pc0 + len) mod 0x10000`, and
`cycles n` (10_state.md R22, 00_scope.md R7). -/
def State.finish (s : State) (len n : Nat) : State :=
  { s with pc := s.pc + BitVec.ofNat 16 len, clkTotal := s.clkTotal + n }

/-- The end of an instruction that transfers control: `pc <- target` and `cycles n`. -/
def State.jump (s : State) (target : Word) (n : Nat) : State := { s with pc := target, clkTotal := s.clkTotal + n }

/-- `raise E`: the fault is recorded and the tick is abandoned, "nothing else of the raising instruction or interrupt
dispatch takes effect" (60_exceptions.md R501). -/
def State.raise (s : State) (f : Fault) : State := { s with fault := some f }

/-- What a part of an instruction that may raise a fault leaves: a value and the state so far, or the faulted state. -/
inductive Access (α : Type) where
  | ok (v : α) (s : State)
  | raised (s : State)
  deriving Repr

/-- Go on unless a fault was raised ("the first `raise` reached is the fault reported and nothing after it happens",
60_exceptions.md R506). -/
def Access.andThen {α β : Type} (r : Access α) (k : α → State → Access β) : Access β :=
  match r with
  | .ok v s => k v s
  | .raised s => .raised s

/-- The end of a meaning: what is left to do with the value, unless a fault was raised. -/
def Access.finish {α : Type} (r : Access α) (k : α → State → State) : Result :=
  match r with
  | .ok v s => .next (k v s)
  | .raised s => .next s

/-! ## The writable arrays -/

/-- The names of the writable arrays (10_state.md R29). -/
inductive ArrayName where
  | vram | wram | oam | io | wave | hram | xram | fb
  deriving DecidableEq, Repr

/-- The array of a name. -/
def Arrays.get (m : Arrays) : ArrayName → Memory
  | .vram => m.vram
  | .wram => m.wram
  | .oam => m.oam
  | .io => m.io
  | .wave => m.wave
  | .hram => m.hram
  | .xram => m.xram
  | .fb => m.fb

/-- The arrays with the one of a name replaced. -/
def Arrays.set (m : Arrays) (n : ArrayName) (x : Memory) : Arrays :=
  match n with
  | .vram => { m with vram := x }
  | .wram => { m with wram := x }
  | .oam => { m with oam := x }
  | .io => { m with io := x }
  | .wave => { m with wave := x }
  | .hram => { m with hram := x }
  | .xram => { m with xram := x }
  | .fb => { m with fb := x }

/-- The byte in cell `k` of array `n`. -/
def State.cell (s : State) (n : ArrayName) (k : Nat) : Byte := (s.mem.get n).read k

/-- Byte `v` stored in cell `k` of array `n`. -/
def State.store (s : State) (n : ArrayName) (k : Nat) (v : Byte) : State :=
  { s with mem := s.mem.set n ((s.mem.get n).write k v) }

/-- `IO[i]`, the stored byte. -/
def State.io (s : State) (i : Nat) : Byte := s.mem.io.read i

/-! ## Configuration that reads depend on -/

/-- `colorMode = (len(BOOT) > 256)` when a boot ROM is present, else `COLOR_MODE_NO_BOOT` (00_scope.md R5, log 10). -/
def State.colorMode (s : State) : Bool :=
  match s.boot with
  | some img => decide (img.size > 256)
  | none => s.cfg.colorModeNoBoot

/-- `vbank` (20_memory.md R78). -/
def State.vbank (s : State) : Nat := if s.colorMode then (s.io 0x4F).toNat % 2 else 0

/-- `wbank` (20_memory.md R81): "bank value 0 aliases to bank 1". -/
def State.wbank (s : State) : Nat :=
  if s.colorMode then (if (s.io 0x70).toNat % 8 = 0 then 1 else (s.io 0x70).toNat % 8) else 1

/-! ## The bank controller (20_memory.md section 4) -/

/-- `romBankCount = len(ROM) div 0x4000` (R107). -/
def State.romBankCount (s : State) : Nat := s.cart.rom.size / 0x4000

/-- The physical ROM offset of bus address `a` in bank `bank`, the bank reduced modulo the bank count (R107). -/
def State.romOffset (s : State) (bank : Nat) (a : Word) : Nat :=
  bank % max s.romBankCount 1 * 0x4000 + a.toNat % 0x4000

/-- `RomByte(bank, a)` (R107): none where the offset is not below `len(ROM)`, which raises `AddressError(a)` (R115). -/
def State.romByte (s : State) (bank : Nat) (a : Word) : Option Byte :=
  if s.romOffset bank a < s.cart.rom.size then some (s.cart.rom.cells.read (s.romOffset bank a)) else none

/-- The bank that `MbcReadRom00` reads (R108, R111-R114). -/
def State.rom00Bank (s : State) : Nat :=
  match s.cart.mbc with
  | .mbc1 => if s.bank.mbc1Mode then s.bank.ramBank.toNat * 0x20 else 0
  | .romOnly => 0
  | .mbc3 => 0
  | .mbc30 => 0
  | .mbc5 => 0

/-- The bank that `MbcReadRomNN` reads (R108, R111-R114). -/
def State.romNNBank (s : State) : Nat :=
  match s.cart.mbc with
  | .romOnly => 1
  | .mbc1 => s.bank.ramBank.toNat * 0x20 + s.bank.romBank.toNat
  | .mbc3 => s.bank.romBank.toNat
  | .mbc30 => s.bank.romBank.toNat
  | .mbc5 => s.bank.romBank.toNat

/-- `RamSel()` (R111-R114); `RomOnly` has no external RAM (R108). -/
def State.ramSel (s : State) : Option Nat :=
  match s.cart.mbc with
  | .romOnly => none
  | .mbc1 => some (if s.bank.mbc1Mode then s.bank.ramBank.toNat else 0)
  | .mbc3 => if s.bank.ramBank.toNat ≤ 0x03 then some s.bank.ramBank.toNat else none
  | .mbc30 => if s.bank.ramBank.toNat ≤ 0x07 then some s.bank.ramBank.toNat else none
  | .mbc5 => some s.bank.ramBank.toNat

/-- The cell of `XRAM` that offset `off` of 0xA000-0xBFFF reaches, or none where the RAM gate is closed (R107, R109). -/
def State.xramCell (s : State) (off : Nat) : Option Nat :=
  if s.cart.ramBanks = 0 ∨ s.bank.ramEnable = false then none
  else s.ramSel.map (fun b => b % s.cart.ramBanks * 0x2000 + off)

/-- The RAM gate: a write of `v` to 0x0000-0x1FFF (R109). -/
def BankRegs.gate (b : BankRegs) (v : Byte) : BankRegs := { b with ramEnable := decide (v.toNat % 16 = 0x0A) }

/-- `romBank <- (1 if b == 0 else b)` (R111-R113). -/
def BankRegs.setRomBankNonzero (b : BankRegs) (n : Nat) : BankRegs :=
  { b with romBank := BitVec.ofNat 9 (if n = 0 then 1 else n) }

/-- `Mbc1` register writes, `n` the bus address (R111). -/
def BankRegs.writeMbc1 (b : BankRegs) (n : Nat) (v : Byte) : BankRegs :=
  if n ≤ 0x1FFF then b.gate v
  else if n ≤ 0x3FFF then b.setRomBankNonzero (v.toNat % 0x20)
  else if n ≤ 0x5FFF then { b with ramBank := BitVec.ofNat 4 (v.toNat % 4) }
  else { b with mbc1Mode := v.getLsbD 0 }

/-- `Mbc3` register writes (R112): 0x6000-0x7FFF is ignored. -/
def BankRegs.writeMbc3 (b : BankRegs) (n : Nat) (v : Byte) : BankRegs :=
  if n ≤ 0x1FFF then b.gate v
  else if n ≤ 0x3FFF then b.setRomBankNonzero (v.toNat % 0x80)
  else if n ≤ 0x5FFF then { b with ramBank := BitVec.ofNat 4 (v.toNat % 16) }
  else b

/-- `Mbc30` register writes (R113): as `Mbc3` with an 8-bit ROM bank. -/
def BankRegs.writeMbc30 (b : BankRegs) (n : Nat) (v : Byte) : BankRegs :=
  if n ≤ 0x1FFF then b.gate v
  else if n ≤ 0x3FFF then b.setRomBankNonzero v.toNat
  else if n ≤ 0x5FFF then { b with ramBank := BitVec.ofNat 4 (v.toNat % 16) }
  else b

/-- `Mbc5` register writes (R114): a 9-bit ROM bank with no zero-to-one adjustment. -/
def BankRegs.writeMbc5 (b : BankRegs) (n : Nat) (v : Byte) : BankRegs :=
  if n ≤ 0x1FFF then b.gate v
  else if n ≤ 0x2FFF then { b with romBank := (b.romBank &&& 0x100#9) ||| v.setWidth 9 }
  else if n ≤ 0x3FFF then
    { b with romBank := (b.romBank &&& 0x0FF#9) ||| (if v.getLsbD 0 then 0x100#9 else 0#9) }
  else if n ≤ 0x5FFF then { b with ramBank := BitVec.ofNat 4 (v.toNat % 16) }
  else b

/-- `MbcWriteRom00`, `MbcWriteRomNN`: a write to 0x0000-0x7FFF is a bank-controller register write (R77, R108-R114). -/
def State.bankWrite (s : State) (a : Word) (v : Byte) : State :=
  match s.cart.mbc with
  | .romOnly => s
  | .mbc1 => { s with bank := s.bank.writeMbc1 a.toNat v }
  | .mbc3 => { s with bank := s.bank.writeMbc3 a.toNat v }
  | .mbc30 => { s with bank := s.bank.writeMbc30 a.toNat v }
  | .mbc5 => { s with bank := s.bank.writeMbc5 a.toNat v }

/-! ## I/O registers (20_memory.md section 3); `off` is the address less 0xFF00 -/

/-- `IoRead` (R85, R90-R101). -/
def State.ioRead (s : State) (off : Nat) : Byte :=
  if off = 0x0F then s.io 0x0F ||| 0xE0#8
  else if 0x30 ≤ off ∧ off ≤ 0x3F then s.cell .wave (off - 0x30)
  else if off = 0x4F ∨ off = 0x70 then (if s.colorMode then s.io off else 0xFF#8)
  else s.io off

/-- `IoWrite` (R85, R90-R101). -/
def State.ioWrite (s : State) (off : Nat) (v : Byte) : State :=
  if off = 0x00 then s.store .io 0x00 ((v &&& 0xF0#8) ||| (s.io 0x00 &&& 0x0F#8))
  else if off = 0x04 then s.store .io 0x04 0x00#8
  else if off = 0x07 then s.store .io 0x07 (v ||| 0xF8#8)
  else if off = 0x0F then s.store .io 0x0F (v ||| 0xE0#8)
  else if 0x30 ≤ off ∧ off ≤ 0x3F then s.store .wave (off - 0x30) v
  else if off = 0x4F ∨ off = 0x70 then (if s.colorMode then s.store .io off v else s)
  else if off = 0x50 then
    { s.store .io 0x50 v with bootActive := s.bootActive && decide (v = 0x00#8) }
  else s.store .io off v

/-! ## The bus (20_memory.md sections 1 and 2) -/

/-- The regions of the address map, each with the offset of the address in it (20_memory.md R71, R72, R136). -/
inductive Region where
  | rom00 | romNN
  | vram (off : Nat)
  | xram (off : Nat)
  | wram0 (off : Nat)
  | wramN (off : Nat)
  | oam (off : Nat)
  | unusable
  | io (off : Nat)
  | hram (off : Nat)
  | ie
  deriving DecidableEq, Repr

/-- The regions below the echo (R71, R72). -/
def lowRegion (n : Nat) : Region :=
  if n ≤ 0x3FFF then .rom00
  else if n ≤ 0x7FFF then .romNN
  else if n ≤ 0x9FFF then .vram (n - 0x8000)
  else if n ≤ 0xBFFF then .xram (n - 0xA000)
  else if n ≤ 0xCFFF then .wram0 (n - 0xC000)
  else .wramN (n - 0xD000)

/-- The region of a bus address: "every address maps to exactly one region by fixed numeric range" (R70); an echo address
is the address 0x2000 below it (R82). -/
def regionOf (a : Word) : Region :=
  let n := a.toNat
  if n ≤ 0xDFFF then lowRegion n
  else if n ≤ 0xFDFF then lowRegion (n - 0x2000)
  else if n ≤ 0xFE9F then .oam (n - 0xFE00)
  else if n ≤ 0xFEFF then .unusable
  else if n ≤ 0xFF7F then .io (n - 0xFF00)
  else if n ≤ 0xFFFE then .hram (n - 0xFF80)
  else .ie

/-- `InOverlay(a)` (R73). -/
def inOverlay (img : Image) (a : Word) : Bool :=
  decide ((a.toNat ≤ 0x00FF ∨ (0x0200 ≤ a.toNat ∧ a.toNat ≤ 0x08FF)) ∧ a.toNat < img.size)

/-- The boot-ROM byte that the active overlay returns for `a`, if it covers `a` (R71, R73). -/
def State.overlayByte (s : State) (a : Word) : Option Byte :=
  match s.boot with
  | some img => if s.bootActive && inOverlay img a then some (img.cells.read a.toNat) else none
  | none => none

/-- `Unusable(a) = n*0x10 + n` with `n = a[7:4]` (R84). -/
def unusableByte (a : Word) : Byte := BitVec.ofNat 8 (a.toNat / 16 % 16 * 0x11)

/-- The byte a read of a region returns; none where the ROM image ends before it (R71, R107). -/
def State.regionByte (s : State) (r : Region) (a : Word) : Option Byte :=
  match r with
  | .rom00 => s.romByte s.rom00Bank a
  | .romNN => s.romByte s.romNNBank a
  | .vram off => some (s.cell .vram (s.vbank * 0x2000 + off))
  | .xram off => some ((s.xramCell off).elim 0xFF#8 (s.cell .xram))
  | .wram0 off => some (s.cell .wram off)
  | .wramN off => some (s.cell .wram (s.wbank * 0x1000 + off))
  | .oam off => some (s.cell .oam off)
  | .unusable => some (unusableByte a)
  | .io off => some (s.ioRead off)
  | .hram off => some (s.cell .hram off)
  | .ie => some (s.ie.setWidth 8 ||| 0xE0#8)

/-- The byte a bus read of `a` returns, its side effect apart; none where it raises `AddressError(a)` (R71, R115). -/
def State.peek (s : State) (a : Word) : Option Byte :=
  match s.overlayByte a with
  | some v => some v
  | none => s.regionByte (regionOf a) a

/-- "The only read with a side effect": a read of 0x0100 while the overlay is active switches it off (R74, R135). -/
def State.afterRead (s : State) (a : Word) : State :=
  if a = 0x0100#16 then { s with bootActive := false } else s

/-- `BusRead(a)` (R71): the side effect first, then the byte or `AddressError(a)`. -/
def State.busRead (s : State) (a : Word) : Access Byte :=
  match (s.afterRead a).peek a with
  | some v => .ok v (s.afterRead a)
  | none => .raised ((s.afterRead a).raise (.addressError a.toNat))

/-- `BusWrite(a, v)` (R72); it never faults, and the overlay does not capture it (R75). -/
def State.busWrite (s : State) (a : Word) (v : Byte) : State :=
  match regionOf a with
  | .rom00 => s.bankWrite a v
  | .romNN => s.bankWrite a v
  | .vram off => s.store .vram (s.vbank * 0x2000 + off) v
  | .xram off => (s.xramCell off).elim s (fun k => s.store .xram k v)
  | .wram0 off => s.store .wram off v
  | .wramN off => s.store .wram (s.wbank * 0x1000 + off) v
  | .oam off => s.store .oam off v
  | .unusable => s
  | .io off => s.ioWrite off v
  | .hram off => s.store .hram off v
  | .ie => { s with ie := v.setWidth 5 }

/-! ## The stack (20_memory.md section 6) -/

/-- `Push16(v)` (R130): the high byte first, at the higher address. -/
def State.push16 (s : State) (v : Word) : Access Unit :=
  if s.sp < 0x0002#16 then .raised (s.raise (.stackError s.sp))
  else .ok () (((s.busWrite (s.sp - 1) (hiByte v)).busWrite (s.sp - 2) (loByte v)).setSp (s.sp - 2))

/-- `Pop16()` (R131). -/
def State.pop16 (s : State) : Access Word :=
  if 0xFFFD#16 < s.sp then .raised (s.raise (.stackError s.sp))
  else
    (s.busRead s.sp).andThen fun lo s1 =>
      (s1.busRead (s.sp + 1)).andThen fun hi s2 => .ok (wordOf hi lo) (s2.setSp (s.sp + 2))

/-! ## Taking an interrupt and returning from one (60_exceptions.md section 2) -/

/-- `pending = IE & IF & 0x1F` (R510). -/
def State.pending (s : State) : BitVec 5 := s.ie &&& (s.io 0x0F).setWidth 5

/-- The lowest pending source: "VBlank=bit0 highest priority down to Joypad=bit4 lowest" (R511, R513). -/
def lowestSource (p : BitVec 5) : Nat :=
  if p.getLsbD 0 then 0
  else if p.getLsbD 1 then 1
  else if p.getLsbD 2 then 2
  else if p.getLsbD 3 then 3
  else 4

/-- `Dispatch(n)`, the one way an interrupt is taken: `pc` is pushed, `IME` and `ei_pending` are cleared, 20 cycles pass,
bit `n` of `IF` is cleared and `pc` becomes the vector `0x40 + 8n` (R512). -/
def State.dispatch (s : State) (n : Nat) : Access Unit :=
  (s.push16 s.pc).andThen fun _ s1 =>
    .ok ()
      { (s1.store .io 0x0F (s1.io 0x0F &&& (0xFF#8 ^^^ (1#8 <<< n)))) with
        ime := false
        eiPending := false
        clkTotal := s1.clkTotal + 20
        pc := BitVec.ofNat 16 (0x0040 + 8 * n) }

/-- Leaving `Halted`: "exit halt (costs 4 extra cycles)" (R510, 46_cpu_control.md R371). -/
def State.exitHalt (s : State) : State :=
  if s.run = .halted then { s with run := .running, clkTotal := s.clkTotal + 4 } else s

/-- `InterruptCheck()` (R510). -/
def State.interruptCheck (s : State) : State :=
  if s.pending = 0#5 then s
  else if s.ime = true ∧ s.sp < 0x0002#16 then s.raise (.stackError s.sp)
  else if s.ime = false then s.exitHalt
  else
    match s.exitHalt.dispatch (lowestSource s.pending) with
    | .ok _ t => t
    | .raised t => t

/-- The return of `RET`, `RET cc` and `RETI`: `pc <- Pop16()`, "adding nothing" (45_control_flow.md R351, R361), then
`cycles n`. -/
def State.returnFrom (s : State) (n : Nat) : Access Unit :=
  s.pop16.andThen fun target s1 => .ok () (s1.jump target n)

/-! ## Fetching an instruction (30_encoding.md R150, R151, R153) -/

/-- The opcode byte at `pc`, then the operand bytes its format has, each read with `BusRead` in increasing address order;
`pc` does not move. An unassigned value is fetched alone (46_cpu_control.md R376). -/
def State.fetch (s : State) : Access Instr :=
  (s.busRead s.pc).andThen fun op s1 =>
    match formatOf op with
    | .op => .ok (decodeOp op 0 0) s1
    | .op8 => (s1.busRead (s.pc + 1)).andThen fun b1 s2 => .ok (decodeOp op b1 0) s2
    | .cb => (s1.busRead (s.pc + 1)).andThen fun b1 s2 => .ok (decodeOp op b1 0) s2
    | .op16 =>
      (s1.busRead (s.pc + 1)).andThen fun b1 s2 =>
        (s2.busRead (s.pc + 2)).andThen fun b2 s3 => .ok (decodeOp op b1 b2) s3

end Sys2Proof.Machine
end

