-- ==== Sys2Proof/Machine/Operands.lean ====
section
/-! DEFINITION. The operand forms: register pairs, the 16-bit operand codes, the addressing modes of the loads, the signed
offset, and the conditions (spec 00_scope.md R7, 10_state.md R21, 30_encoding.md R153-R158, 40_load8.md R219). -/
namespace Sys2Proof.Machine

/-! ## Register pairs (10_state.md R21) -/

/-- `x[BC]`. -/
def State.bc (s : State) : Word := wordOf s.regs.b s.regs.c

/-- `x[DE]`. -/
def State.de (s : State) : Word := wordOf s.regs.d s.regs.e

/-- `x[HL]`. -/
def State.hl (s : State) : Word := wordOf s.regs.h s.regs.l

/-- `x[BC] <- v`. -/
def State.setBC (s : State) (v : Word) : State := { s with regs := { s.regs with b := hiByte v, c := loByte v } }

/-- `x[DE] <- v`. -/
def State.setDE (s : State) (v : Word) : State := { s with regs := { s.regs with d := hiByte v, e := loByte v } }

/-- `x[HL] <- v`. -/
def State.setHL (s : State) (v : Word) : State := { s with regs := { s.regs with h := hiByte v, l := loByte v } }

/-- `x[rr]`, where code 3 is `sp` (30_encoding.md R156). -/
def State.pair (s : State) : Pair → Word
  | .BC => s.bc
  | .DE => s.de
  | .HL => s.hl
  | .SP => s.sp

/-- `x[rr] <- v`. -/
def State.setPair (s : State) (rr : Pair) (v : Word) : State :=
  match rr with
  | .BC => s.setBC v
  | .DE => s.setDE v
  | .HL => s.setHL v
  | .SP => s.setSp v

/-! ## The flag byte (10_state.md R24) -/

/-- `F = Z*0x80 + N*0x40 + H*0x20 + C*0x10`, bits 3..0 always zero. -/
def Flags.pack (f : Flags) : Byte :=
  (if f.z then 0x80#8 else 0#8) ||| (if f.n then 0x40#8 else 0#8) ||| (if f.h then 0x20#8 else 0#8) |||
    (if f.c then 0x10#8 else 0#8)

/-- `Z <- v[7]`, `N <- v[6]`, `H <- v[5]`, `C <- v[4]`; `v[3:0]` is discarded. -/
def Flags.unpack (v : Byte) : Flags where
  z := v.getLsbD 7
  n := v.getLsbD 6
  h := v.getLsbD 5
  c := v.getLsbD 4

/-- `x[AF] = x[A]:F`. -/
def State.af (s : State) : Word := wordOf s.regs.a s.flags.pack

/-- `x[AF] <- v`. -/
def State.setAF (s : State) (v : Word) : State :=
  { s with regs := { s.regs with a := hiByte v }, flags := Flags.unpack (loByte v) }

/-- `x[qq]` (30_encoding.md R157). -/
def State.stackPair (s : State) : StackPair → Word
  | .BC => s.bc
  | .DE => s.de
  | .HL => s.hl
  | .AF => s.af

/-- `x[qq] <- v`. -/
def State.setStackPair (s : State) (qq : StackPair) (v : Word) : State :=
  match qq with
  | .BC => s.setBC v
  | .DE => s.setDE v
  | .HL => s.setHL v
  | .AF => s.setAF v

/-! ## Addresses and offsets -/

/-- `0xFF00 + a8`, the address of `LDH` and of `LD A,(C)`, `LD (C),A` (30_encoding.md R153, 40_load8.md R211-R214). -/
def highPage (a8 : Byte) : Word := wordOf 0xFF#8 a8

/-- `sext_16(v)` (00_scope.md R7). -/
def sext16 (v : Byte) : Word := v.signExtend 16

/-- What `LD (HL+)` and `LD (HL-)` do to the pointer after the access (40_load8.md R215-R218). -/
inductive PostStep where
  | inc | dec
  deriving DecidableEq, Repr

/-- The pointer after the access, modulo 0x10000. -/
def PostStep.apply (p : PostStep) (v : Word) : Word :=
  match p with
  | .inc => v + 1
  | .dec => v - 1

/-! ## Conditions -/

/-- `cond(cc)` (45_control_flow.md R350). -/
def Flags.holds (f : Flags) : Cond → Bool
  | .NZ => !f.z
  | .Z => f.z
  | .NC => !f.c
  | .C => f.c

end Sys2Proof.Machine
end

