-- ==== Sys2Proof/Machine/Flags.lean ====
section
/-! DEFINITION. The arithmetic, each function with the flags it leaves: operands are converted to integers, the exact
result is computed, and the byte or word and the carries are read off it (spec 42_alu8.md R250-R253, R278-R285,
43_alu16.md R300-R303, 44_rotate_shift_bit.md R310-R314, R331). -/
namespace Sys2Proof.Machine

/-! ## 8-bit add, subtract, logic (42_alu8.md section 1) -/

/-- `Add8(a, b, cin)` (R250). -/
def add8 (a b : Byte) (cin : Bool) : Byte × Flags :=
  let sum := a.toNat + b.toNat + cin.toNat
  let res := BitVec.ofNat 8 sum
  (res,
    { z := decide (res = 0#8)
      n := false
      h := decide (a.toNat % 16 + b.toNat % 16 + cin.toNat > 0x0F)
      c := decide (sum > 0xFF) })

/-- `Sub8(a, b, cin)` (R251). -/
def sub8 (a b : Byte) (cin : Bool) : Byte × Flags :=
  let diff : Int := (a.toNat : Int) - (b.toNat : Int) - (cin.toNat : Int)
  let res := BitVec.ofInt 8 diff
  (res,
    { z := decide (res = 0#8)
      n := true
      h := decide (a.toNat % 16 < b.toNat % 16 + cin.toNat)
      c := decide (a.toNat < b.toNat + cin.toNat) })

/-- `And8(a, b)` (R252). -/
def and8 (a b : Byte) : Byte × Flags := (a &&& b, { z := decide (a &&& b = 0#8), n := false, h := true, c := false })

/-- `Xor8(a, b)` (R252). -/
def xor8 (a b : Byte) : Byte × Flags := (a ^^^ b, { z := decide (a ^^^ b = 0#8), n := false, h := false, c := false })

/-- `Or8(a, b)` (R252). -/
def or8 (a b : Byte) : Byte × Flags := (a ||| b, { z := decide (a ||| b = 0#8), n := false, h := false, c := false })

/-- The function of an ALU operation code on `A`, the operand and the incoming carry (30_encoding.md R159). -/
def alu8 (op : AluOp) (a b : Byte) (cin : Bool) : Byte × Flags :=
  match op with
  | .add => add8 a b false
  | .adc => add8 a b cin
  | .sub => sub8 a b false
  | .sbc => sub8 a b cin
  | .and => and8 a b
  | .xor => xor8 a b
  | .or => or8 a b
  | .cp => sub8 a b false

/-- "Apply `f`": all four flags, and `x[A] <- res` unless the operation is `CP` (R253, R266). -/
def State.applyAlu (s : State) (op : AluOp) (b : Byte) : State :=
  let r := alu8 op s.regs.a b s.flags.c
  match op with
  | .cp => s.setFlags r.2
  | .add => (s.setReg .A r.1).setFlags r.2
  | .adc => (s.setReg .A r.1).setFlags r.2
  | .sub => (s.setReg .A r.1).setFlags r.2
  | .sbc => (s.setReg .A r.1).setFlags r.2
  | .and => (s.setReg .A r.1).setFlags r.2
  | .xor => (s.setReg .A r.1).setFlags r.2
  | .or => (s.setReg .A r.1).setFlags r.2

/-! ## 8-bit increment and decrement (R278, R280) -/

/-- `INC`: `C` is unchanged (R278). -/
def inc8 (v : Byte) (f : Flags) : Byte × Flags :=
  (v + 1#8, { f with z := decide (v + 1#8 = 0#8), n := false, h := decide (v.toNat % 16 = 0x0F) })

/-- `DEC`: `C` is unchanged (R280). -/
def dec8 (v : Byte) (f : Flags) : Byte × Flags :=
  (v - 1#8, { f with z := decide (v - 1#8 = 0#8), n := true, h := decide (v.toNat % 16 = 0x00) })

/-! ## DAA, CPL, SCF, CCF (R282-R285) -/

/-- The adjustment and the carry out of `DAA` (R282). Both tests of the addition branch use the original `a`. -/
def daaAdjust (a : Byte) (f : Flags) : Nat × Bool :=
  if f.n = false then
    let high := f.c || decide (a.toNat > 0x99)
    ((if f.h || decide (a.toNat % 16 > 0x09) then 0x06 else 0) + (if high then 0x60 else 0), high)
  else ((if f.h then 0x06 else 0) + (if f.c then 0x60 else 0), f.c)

/-- `DAA` (R282): `N` unchanged. -/
def daa8 (a : Byte) (f : Flags) : Byte × Flags :=
  let adj := daaAdjust a f
  let res := if f.n = false then a + BitVec.ofNat 8 adj.1 else a - BitVec.ofNat 8 adj.1
  (res, { z := decide (res = 0#8), n := f.n, h := false, c := adj.2 })

/-- The flags after `CPL` (R283). -/
def Flags.afterCpl (f : Flags) : Flags := { f with n := true, h := true }

/-- The flags after `SCF` (R284). -/
def Flags.afterScf (f : Flags) : Flags := { f with n := false, h := false, c := true }

/-- The flags after `CCF` (R285). -/
def Flags.afterCcf (f : Flags) : Flags := { f with n := false, h := false, c := !f.c }

/-! ## 16-bit arithmetic (43_alu16.md) -/

/-- `ADD HL,rr`: carries out of bit 11 and bit 15, `Z` unchanged (R300). -/
def add16 (a b : Word) (f : Flags) : Word × Flags :=
  let sum := a.toNat + b.toNat
  (BitVec.ofNat 16 sum,
    { f with n := false, h := decide (a.toNat % 0x1000 + b.toNat % 0x1000 > 0x0FFF), c := decide (sum > 0xFFFF) })

/-- `ADD SP,e8` and `LD HL,SP+e8`: the carries of the unsigned addition of the operand byte to the low byte of `sp`
(R303, 41_load16_stack.md R233). -/
def addSpOffset (sp : Word) (e8 : Byte) : Word × Flags :=
  (sp + sext16 e8,
    { z := false
      n := false
      h := decide (sp.toNat % 0x10 + e8.toNat % 0x10 > 0x0F)
      c := decide (sp.toNat % 0x100 + e8.toNat > 0xFF) })

/-! ## Rotates, shifts, bits (44_rotate_shift_bit.md) -/

/-- A byte whose bit 0 is `b`. -/
def bit0 (b : Bool) : Byte := if b then 0x01#8 else 0x00#8

/-- A byte whose bit 7 is `b`. -/
def bit7 (b : Bool) : Byte := if b then 0x80#8 else 0x00#8

/-- The shifter functions: `(res, cout)` (R314). -/
def shift8 (op : ShiftOp) (v : Byte) (cin : Bool) : Byte × Bool :=
  match op with
  | .rlc => ((v <<< 1) ||| bit0 (v.getLsbD 7), v.getLsbD 7)
  | .rrc => ((v >>> 1) ||| bit7 (v.getLsbD 0), v.getLsbD 0)
  | .rl => ((v <<< 1) ||| bit0 cin, v.getLsbD 7)
  | .rr => ((v >>> 1) ||| bit7 cin, v.getLsbD 0)
  | .sla => (v <<< 1, v.getLsbD 7)
  | .sra => ((v >>> 1) ||| (v &&& 0x80#8), v.getLsbD 0)
  | .swap => (((v &&& 0x0F#8) <<< 4) ||| (v >>> 4), false)
  | .srl => (v >>> 1, v.getLsbD 0)

/-- The flags of a `CB` rotate or shift: `Z <- (res == 0); N <- false; H <- false; C <- cout` (R314). -/
def shiftFlags (r : Byte × Bool) : Flags := { z := decide (r.1 = 0#8), n := false, h := false, c := r.2 }

/-- The flags of an accumulator rotate: `Z` is cleared even when the result is zero (R310-R313). -/
def rotateAFlags (r : Byte × Bool) : Flags := { z := false, n := false, h := false, c := r.2 }

/-- The flags of `BIT`: `Z <- (v[b] == 0); N <- false; H <- true`, `C` unchanged (R331). -/
def bitFlags (b : Fin 8) (v : Byte) (f : Flags) : Flags := { f with z := !v.getLsbD b.val, n := false, h := true }

/-- `v & (0xFF ^ (1 << b))` (R333). -/
def resBit (b : Fin 8) (v : Byte) : Byte := v &&& (0xFF#8 ^^^ (1#8 <<< b.val))

/-- `v | (1 << b)` (R335). -/
def setBit (b : Fin 8) (v : Byte) : Byte := v ||| (1#8 <<< b.val)

end Sys2Proof.Machine
end

