-- ==== Sys2Proof/Machine/Alu16.lean ====
section
/-! DEFINITION. The 16-bit arithmetic instructions (spec 43_alu16.md R300-R303): the shared operations, then one meaning
per row. -/
namespace Sys2Proof.Machine

/-- `ADD HL,rr`: both sources read before the write, 8 cycles (R300). -/
def addToHL (rr : Pair) (s : State) : Result :=
  .next (((s.setHL (add16 s.hl (s.pair rr) s.flags).1).setFlags (add16 s.hl (s.pair rr) s.flags).2).finish 1 8)

/-- `INC rr`: modulo 0x10000, no flag, 8 cycles (R301). -/
def incPair (rr : Pair) (s : State) : Result := .next ((s.setPair rr (s.pair rr + 1)).finish 1 8)

/-- `DEC rr`: modulo 0x10000, no flag, 8 cycles (R302). -/
def decPair (rr : Pair) (s : State) : Result := .next ((s.setPair rr (s.pair rr - 1)).finish 1 8)

/-! ## One meaning per row -/

/-- `INC BC` (R301). -/
def exec_inc_BC (s : State) : Result := incPair .BC s
/-- `ADD HL,BC` (R300). -/
def exec_add_HL_BC (s : State) : Result := addToHL .BC s
/-- `DEC BC` (R302). -/
def exec_dec_BC (s : State) : Result := decPair .BC s
/-- `INC DE` (R301). -/
def exec_inc_DE (s : State) : Result := incPair .DE s
/-- `ADD HL,DE` (R300). -/
def exec_add_HL_DE (s : State) : Result := addToHL .DE s
/-- `DEC DE` (R302). -/
def exec_dec_DE (s : State) : Result := decPair .DE s
/-- `INC HL` (R301). -/
def exec_inc_HL (s : State) : Result := incPair .HL s
/-- `ADD HL,HL` (R300). -/
def exec_add_HL_HL (s : State) : Result := addToHL .HL s
/-- `DEC HL` (R302). -/
def exec_dec_HL (s : State) : Result := decPair .HL s
/-- `INC SP` (R301). -/
def exec_inc_SP (s : State) : Result := incPair .SP s
/-- `ADD HL,SP` (R300). -/
def exec_add_HL_SP (s : State) : Result := addToHL .SP s
/-- `DEC SP` (R302). -/
def exec_dec_SP (s : State) : Result := decPair .SP s
/-- `ADD SP,e8` (R303). -/
def exec_add_SP_e8 (e8 : Byte) (s : State) : Result :=
  .next (((s.setSp (addSpOffset s.sp e8).1).setFlags (addSpOffset s.sp e8).2).finish 2 16)

end Sys2Proof.Machine
end

