-- ==== Sys2Proof/Machine/Alu8.lean ====
section
/-! DEFINITION. The 8-bit arithmetic and logic instructions (spec 42_alu8.md R254-R285): the shared operations, then one
meaning per row. -/
namespace Sys2Proof.Machine

/-- An ALU operation on `A` and a register, 4 cycles (R254, R257, R260, R263, R266, R269, R272, R275). -/
def aluReg (op : AluOp) (r : Reg8) (s : State) : Result := .next ((s.applyAlu op (s.reg r)).finish 1 4)

/-- An ALU operation on `A` and the byte at `x[HL]`, 8 cycles (R255, R258, R261, R264, R267, R270, R273, R276). -/
def aluMem (op : AluOp) (s : State) : Result :=
  (s.busRead s.hl).finish fun v t => (t.applyAlu op v).finish 1 8

/-- An ALU operation on `A` and `d8`, 8 cycles (R256, R259, R262, R265, R268, R271, R274, R277). -/
def aluImm (op : AluOp) (d8 : Byte) (s : State) : Result := .next ((s.applyAlu op d8).finish 2 8)

/-- `INC r`, 4 cycles (R278). -/
def incReg (r : Reg8) (s : State) : Result :=
  .next (((s.setReg r (inc8 (s.reg r) s.flags).1).setFlags (inc8 (s.reg r) s.flags).2).finish 1 4)

/-- `DEC r`, 4 cycles (R280). -/
def decReg (r : Reg8) (s : State) : Result :=
  .next (((s.setReg r (dec8 (s.reg r) s.flags).1).setFlags (dec8 (s.reg r) s.flags).2).finish 1 4)

/-- `INC (HL)`: one read then one write of the same address, 12 cycles (R279). -/
def incMem (s : State) : Result :=
  (s.busRead s.hl).finish fun v t => ((t.busWrite s.hl (inc8 v s.flags).1).setFlags (inc8 v s.flags).2).finish 1 12

/-- `DEC (HL)`: one read then one write of the same address, 12 cycles (R281). -/
def decMem (s : State) : Result :=
  (s.busRead s.hl).finish fun v t => ((t.busWrite s.hl (dec8 v s.flags).1).setFlags (dec8 v s.flags).2).finish 1 12

/-! ## One meaning per row -/

/-- `INC B` (R278). -/
def exec_inc_B (s : State) : Result := incReg .B s
/-- `DEC B` (R280). -/
def exec_dec_B (s : State) : Result := decReg .B s
/-- `INC C` (R278). -/
def exec_inc_C (s : State) : Result := incReg .C s
/-- `DEC C` (R280). -/
def exec_dec_C (s : State) : Result := decReg .C s
/-- `INC D` (R278). -/
def exec_inc_D (s : State) : Result := incReg .D s
/-- `DEC D` (R280). -/
def exec_dec_D (s : State) : Result := decReg .D s
/-- `INC E` (R278). -/
def exec_inc_E (s : State) : Result := incReg .E s
/-- `DEC E` (R280). -/
def exec_dec_E (s : State) : Result := decReg .E s
/-- `INC H` (R278). -/
def exec_inc_H (s : State) : Result := incReg .H s
/-- `DEC H` (R280). -/
def exec_dec_H (s : State) : Result := decReg .H s
/-- `DAA` (R282). -/
def exec_daa (s : State) : Result :=
  .next (((s.setReg .A (daa8 s.regs.a s.flags).1).setFlags (daa8 s.regs.a s.flags).2).finish 1 4)
/-- `INC L` (R278). -/
def exec_inc_L (s : State) : Result := incReg .L s
/-- `DEC L` (R280). -/
def exec_dec_L (s : State) : Result := decReg .L s
/-- `CPL` (R283). -/
def exec_cpl (s : State) : Result :=
  .next (((s.setReg .A (s.regs.a ^^^ 0xFF#8)).setFlags s.flags.afterCpl).finish 1 4)
/-- `INC (HL)` (R279). -/
def exec_inc_indHL (s : State) : Result := incMem s
/-- `DEC (HL)` (R281). -/
def exec_dec_indHL (s : State) : Result := decMem s
/-- `SCF` (R284). -/
def exec_scf (s : State) : Result := .next ((s.setFlags s.flags.afterScf).finish 1 4)
/-- `INC A` (R278). -/
def exec_inc_A (s : State) : Result := incReg .A s
/-- `DEC A` (R280). -/
def exec_dec_A (s : State) : Result := decReg .A s
/-- `CCF` (R285). -/
def exec_ccf (s : State) : Result := .next ((s.setFlags s.flags.afterCcf).finish 1 4)
/-- `ADD A,B` (R254). -/
def exec_add_A_B (s : State) : Result := aluReg .add .B s
/-- `ADD A,C` (R254). -/
def exec_add_A_C (s : State) : Result := aluReg .add .C s
/-- `ADD A,D` (R254). -/
def exec_add_A_D (s : State) : Result := aluReg .add .D s
/-- `ADD A,E` (R254). -/
def exec_add_A_E (s : State) : Result := aluReg .add .E s
/-- `ADD A,H` (R254). -/
def exec_add_A_H (s : State) : Result := aluReg .add .H s
/-- `ADD A,L` (R254). -/
def exec_add_A_L (s : State) : Result := aluReg .add .L s
/-- `ADD A,(HL)` (R255). -/
def exec_add_A_indHL (s : State) : Result := aluMem .add s
/-- `ADD A,A` (R254). -/
def exec_add_A_A (s : State) : Result := aluReg .add .A s
/-- `ADC A,B` (R257). -/
def exec_adc_A_B (s : State) : Result := aluReg .adc .B s
/-- `ADC A,C` (R257). -/
def exec_adc_A_C (s : State) : Result := aluReg .adc .C s
/-- `ADC A,D` (R257). -/
def exec_adc_A_D (s : State) : Result := aluReg .adc .D s
/-- `ADC A,E` (R257). -/
def exec_adc_A_E (s : State) : Result := aluReg .adc .E s
/-- `ADC A,H` (R257). -/
def exec_adc_A_H (s : State) : Result := aluReg .adc .H s
/-- `ADC A,L` (R257). -/
def exec_adc_A_L (s : State) : Result := aluReg .adc .L s
/-- `ADC A,(HL)` (R258). -/
def exec_adc_A_indHL (s : State) : Result := aluMem .adc s
/-- `ADC A,A` (R257). -/
def exec_adc_A_A (s : State) : Result := aluReg .adc .A s
/-- `SUB B` (R260). -/
def exec_sub_B (s : State) : Result := aluReg .sub .B s
/-- `SUB C` (R260). -/
def exec_sub_C (s : State) : Result := aluReg .sub .C s
/-- `SUB D` (R260). -/
def exec_sub_D (s : State) : Result := aluReg .sub .D s
/-- `SUB E` (R260). -/
def exec_sub_E (s : State) : Result := aluReg .sub .E s
/-- `SUB H` (R260). -/
def exec_sub_H (s : State) : Result := aluReg .sub .H s
/-- `SUB L` (R260). -/
def exec_sub_L (s : State) : Result := aluReg .sub .L s
/-- `SUB (HL)` (R261). -/
def exec_sub_indHL (s : State) : Result := aluMem .sub s
/-- `SUB A` (R260). -/
def exec_sub_A (s : State) : Result := aluReg .sub .A s
/-- `SBC A,B` (R263). -/
def exec_sbc_A_B (s : State) : Result := aluReg .sbc .B s
/-- `SBC A,C` (R263). -/
def exec_sbc_A_C (s : State) : Result := aluReg .sbc .C s
/-- `SBC A,D` (R263). -/
def exec_sbc_A_D (s : State) : Result := aluReg .sbc .D s
/-- `SBC A,E` (R263). -/
def exec_sbc_A_E (s : State) : Result := aluReg .sbc .E s
/-- `SBC A,H` (R263). -/
def exec_sbc_A_H (s : State) : Result := aluReg .sbc .H s
/-- `SBC A,L` (R263). -/
def exec_sbc_A_L (s : State) : Result := aluReg .sbc .L s
/-- `SBC A,(HL)` (R264). -/
def exec_sbc_A_indHL (s : State) : Result := aluMem .sbc s
/-- `SBC A,A` (R263). -/
def exec_sbc_A_A (s : State) : Result := aluReg .sbc .A s
/-- `AND B` (R269). -/
def exec_and_B (s : State) : Result := aluReg .and .B s
/-- `AND C` (R269). -/
def exec_and_C (s : State) : Result := aluReg .and .C s
/-- `AND D` (R269). -/
def exec_and_D (s : State) : Result := aluReg .and .D s
/-- `AND E` (R269). -/
def exec_and_E (s : State) : Result := aluReg .and .E s
/-- `AND H` (R269). -/
def exec_and_H (s : State) : Result := aluReg .and .H s
/-- `AND L` (R269). -/
def exec_and_L (s : State) : Result := aluReg .and .L s
/-- `AND (HL)` (R270). -/
def exec_and_indHL (s : State) : Result := aluMem .and s
/-- `AND A` (R269). -/
def exec_and_A (s : State) : Result := aluReg .and .A s
/-- `XOR B` (R272). -/
def exec_xor_B (s : State) : Result := aluReg .xor .B s
/-- `XOR C` (R272). -/
def exec_xor_C (s : State) : Result := aluReg .xor .C s
/-- `XOR D` (R272). -/
def exec_xor_D (s : State) : Result := aluReg .xor .D s
/-- `XOR E` (R272). -/
def exec_xor_E (s : State) : Result := aluReg .xor .E s
/-- `XOR H` (R272). -/
def exec_xor_H (s : State) : Result := aluReg .xor .H s
/-- `XOR L` (R272). -/
def exec_xor_L (s : State) : Result := aluReg .xor .L s
/-- `XOR (HL)` (R273). -/
def exec_xor_indHL (s : State) : Result := aluMem .xor s
/-- `XOR A` (R272). -/
def exec_xor_A (s : State) : Result := aluReg .xor .A s
/-- `OR B` (R275). -/
def exec_or_B (s : State) : Result := aluReg .or .B s
/-- `OR C` (R275). -/
def exec_or_C (s : State) : Result := aluReg .or .C s
/-- `OR D` (R275). -/
def exec_or_D (s : State) : Result := aluReg .or .D s
/-- `OR E` (R275). -/
def exec_or_E (s : State) : Result := aluReg .or .E s
/-- `OR H` (R275). -/
def exec_or_H (s : State) : Result := aluReg .or .H s
/-- `OR L` (R275). -/
def exec_or_L (s : State) : Result := aluReg .or .L s
/-- `OR (HL)` (R276). -/
def exec_or_indHL (s : State) : Result := aluMem .or s
/-- `OR A` (R275). -/
def exec_or_A (s : State) : Result := aluReg .or .A s
/-- `CP B` (R266). -/
def exec_cp_B (s : State) : Result := aluReg .cp .B s
/-- `CP C` (R266). -/
def exec_cp_C (s : State) : Result := aluReg .cp .C s
/-- `CP D` (R266). -/
def exec_cp_D (s : State) : Result := aluReg .cp .D s
/-- `CP E` (R266). -/
def exec_cp_E (s : State) : Result := aluReg .cp .E s
/-- `CP H` (R266). -/
def exec_cp_H (s : State) : Result := aluReg .cp .H s
/-- `CP L` (R266). -/
def exec_cp_L (s : State) : Result := aluReg .cp .L s
/-- `CP (HL)` (R267). -/
def exec_cp_indHL (s : State) : Result := aluMem .cp s
/-- `CP A` (R266). -/
def exec_cp_A (s : State) : Result := aluReg .cp .A s
/-- `ADD A,d8` (R256). -/
def exec_add_A_d8 (d8 : Byte) (s : State) : Result := aluImm .add d8 s
/-- `ADC A,d8` (R259). -/
def exec_adc_A_d8 (d8 : Byte) (s : State) : Result := aluImm .adc d8 s
/-- `SUB d8` (R262). -/
def exec_sub_d8 (d8 : Byte) (s : State) : Result := aluImm .sub d8 s
/-- `SBC A,d8` (R265). -/
def exec_sbc_A_d8 (d8 : Byte) (s : State) : Result := aluImm .sbc d8 s
/-- `AND d8` (R271). -/
def exec_and_d8 (d8 : Byte) (s : State) : Result := aluImm .and d8 s
/-- `XOR d8` (R274). -/
def exec_xor_d8 (d8 : Byte) (s : State) : Result := aluImm .xor d8 s
/-- `OR d8` (R277). -/
def exec_or_d8 (d8 : Byte) (s : State) : Result := aluImm .or d8 s
/-- `CP d8` (R268). -/
def exec_cp_d8 (d8 : Byte) (s : State) : Result := aluImm .cp d8 s

end Sys2Proof.Machine
end

