-- ==== Sys2Proof/Machine/Control.lean ====
section
/-! DEFINITION. Jumps, calls, returns and restarts (spec 45_control_flow.md R353-R363): the shared operations, then one
meaning per row. `pc` is `pc0` until the end of a meaning, so `next` is `s.pc` plus the length. -/
namespace Sys2Proof.Machine

/-- The target of a relative jump: `(next + sext_16(d8)) mod 0x10000` with `next = pc0 + 2` (R356). -/
def State.relTarget (s : State) (e8 : Byte) : Word := s.pc + 2 + sext16 e8

/-- `JP cc,a16`: 16 cycles taken, 12 not (R354). -/
def jumpCond (cc : Cond) (a16 : Word) (s : State) : Result :=
  .next (if s.flags.holds cc then s.jump a16 16 else s.finish 3 12)

/-- `JR cc,e8`: "12 cycles taken, 8 not-taken" (R357). -/
def jumpRelCond (cc : Cond) (e8 : Byte) (s : State) : Result :=
  .next (if s.flags.holds cc then s.jump (s.relTarget e8) 12 else s.finish 2 8)

/-- `Push16(next); pc <- target` for an instruction of `len` bytes and `n` cycles (R351, R358, R360). -/
def callTo (target : Word) (len n : Nat) (s : State) : Result :=
  (s.push16 (s.pc + BitVec.ofNat 16 len)).finish fun _ t => t.jump target n

/-- `CALL cc,a16`: "24 taken, 12 not-taken"; not taken, the stack is not touched (R359). -/
def callCond (cc : Cond) (a16 : Word) (s : State) : Result :=
  if s.flags.holds cc then callTo a16 3 24 s else .next (s.finish 3 12)

/-- `pc <- Pop16()`, `n` cycles (R361). -/
def returnNow (n : Nat) (s : State) : Result := (s.returnFrom n).finish fun _ t => t

/-- `RET cc`: 20 cycles taken, 8 not; not taken, the stack is not touched (R362). -/
def returnCond (cc : Cond) (s : State) : Result :=
  if s.flags.holds cc then returnNow 20 s else .next (s.finish 1 8)

/-! ## One meaning per row -/

/-- `JR e8` (R356). -/
def exec_jr_e8 (e8 : Byte) (s : State) : Result := .next (s.jump (s.relTarget e8) 12)
/-- `JR NZ,e8` (R357). -/
def exec_jr_NZ_e8 (e8 : Byte) (s : State) : Result := jumpRelCond .NZ e8 s
/-- `JR Z,e8` (R357). -/
def exec_jr_Z_e8 (e8 : Byte) (s : State) : Result := jumpRelCond .Z e8 s
/-- `JR NC,e8` (R357). -/
def exec_jr_NC_e8 (e8 : Byte) (s : State) : Result := jumpRelCond .NC e8 s
/-- `JR C,e8` (R357). -/
def exec_jr_C_e8 (e8 : Byte) (s : State) : Result := jumpRelCond .C e8 s
/-- `RET NZ` (R362). -/
def exec_ret_NZ (s : State) : Result := returnCond .NZ s
/-- `JP NZ,a16` (R354). -/
def exec_jp_NZ_a16 (a16 : Word) (s : State) : Result := jumpCond .NZ a16 s
/-- `JP a16` (R353). -/
def exec_jp_a16 (a16 : Word) (s : State) : Result := .next (s.jump a16 16)
/-- `CALL NZ,a16` (R359). -/
def exec_call_NZ_a16 (a16 : Word) (s : State) : Result := callCond .NZ a16 s
/-- `RST 00H` (R360). -/
def exec_rst_00H (s : State) : Result := callTo 0x0000#16 1 16 s
/-- `RET Z` (R362). -/
def exec_ret_Z (s : State) : Result := returnCond .Z s
/-- `RET` (R361). -/
def exec_ret (s : State) : Result := returnNow 16 s
/-- `JP Z,a16` (R354). -/
def exec_jp_Z_a16 (a16 : Word) (s : State) : Result := jumpCond .Z a16 s
/-- `CALL Z,a16` (R359). -/
def exec_call_Z_a16 (a16 : Word) (s : State) : Result := callCond .Z a16 s
/-- `CALL a16` (R358). -/
def exec_call_a16 (a16 : Word) (s : State) : Result := callTo a16 3 24 s
/-- `RST 08H` (R360). -/
def exec_rst_08H (s : State) : Result := callTo 0x0008#16 1 16 s
/-- `RET NC` (R362). -/
def exec_ret_NC (s : State) : Result := returnCond .NC s
/-- `JP NC,a16` (R354). -/
def exec_jp_NC_a16 (a16 : Word) (s : State) : Result := jumpCond .NC a16 s
/-- `CALL NC,a16` (R359). -/
def exec_call_NC_a16 (a16 : Word) (s : State) : Result := callCond .NC a16 s
/-- `RST 10H` (R360). -/
def exec_rst_10H (s : State) : Result := callTo 0x0010#16 1 16 s
/-- `RET C` (R362). -/
def exec_ret_C (s : State) : Result := returnCond .C s
/-- `RETI` (R363). -/
def exec_reti (s : State) : Result := (s.returnFrom 16).finish fun _ t => { t with ime := true, eiPending := false }
/-- `JP C,a16` (R354). -/
def exec_jp_C_a16 (a16 : Word) (s : State) : Result := jumpCond .C a16 s
/-- `CALL C,a16` (R359). -/
def exec_call_C_a16 (a16 : Word) (s : State) : Result := callCond .C a16 s
/-- `RST 18H` (R360). -/
def exec_rst_18H (s : State) : Result := callTo 0x0018#16 1 16 s
/-- `RST 20H` (R360). -/
def exec_rst_20H (s : State) : Result := callTo 0x0020#16 1 16 s
/-- `JP HL` (R355). -/
def exec_jp_HL (s : State) : Result := .next (s.jump s.hl 4)
/-- `RST 28H` (R360). -/
def exec_rst_28H (s : State) : Result := callTo 0x0028#16 1 16 s
/-- `RST 30H` (R360). -/
def exec_rst_30H (s : State) : Result := callTo 0x0030#16 1 16 s
/-- `RST 38H` (R360). -/
def exec_rst_38H (s : State) : Result := callTo 0x0038#16 1 16 s

end Sys2Proof.Machine
end

