-- ==== Sys2Proof/Machine/RotateBit.lean ====
section
/-! DEFINITION. The rotate, shift, swap and bit instructions (spec 44_rotate_shift_bit.md R310-R336): the shared
operations, then one meaning per row. -/
namespace Sys2Proof.Machine

/-- `RLCA`, `RRCA`, `RLA`, `RRA`: one byte, 4 cycles, `Z` cleared (R310-R313). -/
def rotateA (op : ShiftOp) (s : State) : Result :=
  .next (((s.setReg .A (shift8 op s.regs.a s.flags.c).1).setFlags
    (rotateAFlags (shift8 op s.regs.a s.flags.c))).finish 1 4)

/-- A `CB` shifter applied to a register, 8 cycles (R314, R315 and the odd rules to R329). -/
def shiftReg (op : ShiftOp) (r : Reg8) (s : State) : Result :=
  .next (((s.setReg r (shift8 op (s.reg r) s.flags.c).1).setFlags
    (shiftFlags (shift8 op (s.reg r) s.flags.c))).finish 2 8)

/-- A `CB` shifter applied to the byte at `x[HL]`: one read, one write of the same address, 16 cycles; the flags come from
the computed result (R314, R316 and the even rules to R330). -/
def shiftMem (op : ShiftOp) (s : State) : Result :=
  (s.busRead s.hl).finish fun v t =>
    ((t.busWrite s.hl (shift8 op v s.flags.c).1).setFlags (shiftFlags (shift8 op v s.flags.c))).finish 2 16

/-- `BIT b,r`, 8 cycles (R331). -/
def bitReg (b : Fin 8) (r : Reg8) (s : State) : Result :=
  .next ((s.setFlags (bitFlags b (s.reg r) s.flags)).finish 2 8)

/-- `BIT b,(HL)`: read once, not written, 12 cycles (R332). -/
def bitMem (b : Fin 8) (s : State) : Result :=
  (s.busRead s.hl).finish fun v t => (t.setFlags (bitFlags b v s.flags)).finish 2 12

/-- `RES b,r`, 8 cycles, no flag (R333). -/
def resBitReg (b : Fin 8) (r : Reg8) (s : State) : Result := .next ((s.setReg r (resBit b (s.reg r))).finish 2 8)

/-- `RES b,(HL)`, 16 cycles, no flag (R334). -/
def resBitMem (b : Fin 8) (s : State) : Result :=
  (s.busRead s.hl).finish fun v t => (t.busWrite s.hl (resBit b v)).finish 2 16

/-- `SET b,r`, 8 cycles, no flag (R335). -/
def setBitReg (b : Fin 8) (r : Reg8) (s : State) : Result := .next ((s.setReg r (setBit b (s.reg r))).finish 2 8)

/-- `SET b,(HL)`, 16 cycles, no flag (R336). -/
def setBitMem (b : Fin 8) (s : State) : Result :=
  (s.busRead s.hl).finish fun v t => (t.busWrite s.hl (setBit b v)).finish 2 16

/-! ## One meaning per row -/

/-- `RLCA` (R310). -/
def exec_rlca (s : State) : Result := rotateA .rlc s
/-- `RRCA` (R311). -/
def exec_rrca (s : State) : Result := rotateA .rrc s
/-- `RLA` (R312). -/
def exec_rla (s : State) : Result := rotateA .rl s
/-- `RRA` (R313). -/
def exec_rra (s : State) : Result := rotateA .rr s
/-- `RLC B` (R315). -/
def exec_rlc_B (s : State) : Result := shiftReg .rlc .B s
/-- `RLC C` (R315). -/
def exec_rlc_C (s : State) : Result := shiftReg .rlc .C s
/-- `RLC D` (R315). -/
def exec_rlc_D (s : State) : Result := shiftReg .rlc .D s
/-- `RLC E` (R315). -/
def exec_rlc_E (s : State) : Result := shiftReg .rlc .E s
/-- `RLC H` (R315). -/
def exec_rlc_H (s : State) : Result := shiftReg .rlc .H s
/-- `RLC L` (R315). -/
def exec_rlc_L (s : State) : Result := shiftReg .rlc .L s
/-- `RLC (HL)` (R316). -/
def exec_rlc_indHL (s : State) : Result := shiftMem .rlc s
/-- `RLC A` (R315). -/
def exec_rlc_A (s : State) : Result := shiftReg .rlc .A s
/-- `RRC B` (R317). -/
def exec_rrc_B (s : State) : Result := shiftReg .rrc .B s
/-- `RRC C` (R317). -/
def exec_rrc_C (s : State) : Result := shiftReg .rrc .C s
/-- `RRC D` (R317). -/
def exec_rrc_D (s : State) : Result := shiftReg .rrc .D s
/-- `RRC E` (R317). -/
def exec_rrc_E (s : State) : Result := shiftReg .rrc .E s
/-- `RRC H` (R317). -/
def exec_rrc_H (s : State) : Result := shiftReg .rrc .H s
/-- `RRC L` (R317). -/
def exec_rrc_L (s : State) : Result := shiftReg .rrc .L s
/-- `RRC (HL)` (R318). -/
def exec_rrc_indHL (s : State) : Result := shiftMem .rrc s
/-- `RRC A` (R317). -/
def exec_rrc_A (s : State) : Result := shiftReg .rrc .A s
/-- `RL B` (R319). -/
def exec_rl_B (s : State) : Result := shiftReg .rl .B s
/-- `RL C` (R319). -/
def exec_rl_C (s : State) : Result := shiftReg .rl .C s
/-- `RL D` (R319). -/
def exec_rl_D (s : State) : Result := shiftReg .rl .D s
/-- `RL E` (R319). -/
def exec_rl_E (s : State) : Result := shiftReg .rl .E s
/-- `RL H` (R319). -/
def exec_rl_H (s : State) : Result := shiftReg .rl .H s
/-- `RL L` (R319). -/
def exec_rl_L (s : State) : Result := shiftReg .rl .L s
/-- `RL (HL)` (R320). -/
def exec_rl_indHL (s : State) : Result := shiftMem .rl s
/-- `RL A` (R319). -/
def exec_rl_A (s : State) : Result := shiftReg .rl .A s
/-- `RR B` (R321). -/
def exec_rr_B (s : State) : Result := shiftReg .rr .B s
/-- `RR C` (R321). -/
def exec_rr_C (s : State) : Result := shiftReg .rr .C s
/-- `RR D` (R321). -/
def exec_rr_D (s : State) : Result := shiftReg .rr .D s
/-- `RR E` (R321). -/
def exec_rr_E (s : State) : Result := shiftReg .rr .E s
/-- `RR H` (R321). -/
def exec_rr_H (s : State) : Result := shiftReg .rr .H s
/-- `RR L` (R321). -/
def exec_rr_L (s : State) : Result := shiftReg .rr .L s
/-- `RR (HL)` (R322). -/
def exec_rr_indHL (s : State) : Result := shiftMem .rr s
/-- `RR A` (R321). -/
def exec_rr_A (s : State) : Result := shiftReg .rr .A s
/-- `SLA B` (R323). -/
def exec_sla_B (s : State) : Result := shiftReg .sla .B s
/-- `SLA C` (R323). -/
def exec_sla_C (s : State) : Result := shiftReg .sla .C s
/-- `SLA D` (R323). -/
def exec_sla_D (s : State) : Result := shiftReg .sla .D s
/-- `SLA E` (R323). -/
def exec_sla_E (s : State) : Result := shiftReg .sla .E s
/-- `SLA H` (R323). -/
def exec_sla_H (s : State) : Result := shiftReg .sla .H s
/-- `SLA L` (R323). -/
def exec_sla_L (s : State) : Result := shiftReg .sla .L s
/-- `SLA (HL)` (R324). -/
def exec_sla_indHL (s : State) : Result := shiftMem .sla s
/-- `SLA A` (R323). -/
def exec_sla_A (s : State) : Result := shiftReg .sla .A s
/-- `SRA B` (R325). -/
def exec_sra_B (s : State) : Result := shiftReg .sra .B s
/-- `SRA C` (R325). -/
def exec_sra_C (s : State) : Result := shiftReg .sra .C s
/-- `SRA D` (R325). -/
def exec_sra_D (s : State) : Result := shiftReg .sra .D s
/-- `SRA E` (R325). -/
def exec_sra_E (s : State) : Result := shiftReg .sra .E s
/-- `SRA H` (R325). -/
def exec_sra_H (s : State) : Result := shiftReg .sra .H s
/-- `SRA L` (R325). -/
def exec_sra_L (s : State) : Result := shiftReg .sra .L s
/-- `SRA (HL)` (R326). -/
def exec_sra_indHL (s : State) : Result := shiftMem .sra s
/-- `SRA A` (R325). -/
def exec_sra_A (s : State) : Result := shiftReg .sra .A s
/-- `SWAP B` (R327). -/
def exec_swap_B (s : State) : Result := shiftReg .swap .B s
/-- `SWAP C` (R327). -/
def exec_swap_C (s : State) : Result := shiftReg .swap .C s
/-- `SWAP D` (R327). -/
def exec_swap_D (s : State) : Result := shiftReg .swap .D s
/-- `SWAP E` (R327). -/
def exec_swap_E (s : State) : Result := shiftReg .swap .E s
/-- `SWAP H` (R327). -/
def exec_swap_H (s : State) : Result := shiftReg .swap .H s
/-- `SWAP L` (R327). -/
def exec_swap_L (s : State) : Result := shiftReg .swap .L s
/-- `SWAP (HL)` (R328). -/
def exec_swap_indHL (s : State) : Result := shiftMem .swap s
/-- `SWAP A` (R327). -/
def exec_swap_A (s : State) : Result := shiftReg .swap .A s
/-- `SRL B` (R329). -/
def exec_srl_B (s : State) : Result := shiftReg .srl .B s
/-- `SRL C` (R329). -/
def exec_srl_C (s : State) : Result := shiftReg .srl .C s
/-- `SRL D` (R329). -/
def exec_srl_D (s : State) : Result := shiftReg .srl .D s
/-- `SRL E` (R329). -/
def exec_srl_E (s : State) : Result := shiftReg .srl .E s
/-- `SRL H` (R329). -/
def exec_srl_H (s : State) : Result := shiftReg .srl .H s
/-- `SRL L` (R329). -/
def exec_srl_L (s : State) : Result := shiftReg .srl .L s
/-- `SRL (HL)` (R330). -/
def exec_srl_indHL (s : State) : Result := shiftMem .srl s
/-- `SRL A` (R329). -/
def exec_srl_A (s : State) : Result := shiftReg .srl .A s
/-- `BIT 0,B` (R331). -/
def exec_bit_0_B (s : State) : Result := bitReg 0 .B s
/-- `BIT 0,C` (R331). -/
def exec_bit_0_C (s : State) : Result := bitReg 0 .C s
/-- `BIT 0,D` (R331). -/
def exec_bit_0_D (s : State) : Result := bitReg 0 .D s
/-- `BIT 0,E` (R331). -/
def exec_bit_0_E (s : State) : Result := bitReg 0 .E s
/-- `BIT 0,H` (R331). -/
def exec_bit_0_H (s : State) : Result := bitReg 0 .H s
/-- `BIT 0,L` (R331). -/
def exec_bit_0_L (s : State) : Result := bitReg 0 .L s
/-- `BIT 0,(HL)` (R332). -/
def exec_bit_0_indHL (s : State) : Result := bitMem 0 s
/-- `BIT 0,A` (R331). -/
def exec_bit_0_A (s : State) : Result := bitReg 0 .A s
/-- `BIT 1,B` (R331). -/
def exec_bit_1_B (s : State) : Result := bitReg 1 .B s
/-- `BIT 1,C` (R331). -/
def exec_bit_1_C (s : State) : Result := bitReg 1 .C s
/-- `BIT 1,D` (R331). -/
def exec_bit_1_D (s : State) : Result := bitReg 1 .D s
/-- `BIT 1,E` (R331). -/
def exec_bit_1_E (s : State) : Result := bitReg 1 .E s
/-- `BIT 1,H` (R331). -/
def exec_bit_1_H (s : State) : Result := bitReg 1 .H s
/-- `BIT 1,L` (R331). -/
def exec_bit_1_L (s : State) : Result := bitReg 1 .L s
/-- `BIT 1,(HL)` (R332). -/
def exec_bit_1_indHL (s : State) : Result := bitMem 1 s
/-- `BIT 1,A` (R331). -/
def exec_bit_1_A (s : State) : Result := bitReg 1 .A s
/-- `BIT 2,B` (R331). -/
def exec_bit_2_B (s : State) : Result := bitReg 2 .B s
/-- `BIT 2,C` (R331). -/
def exec_bit_2_C (s : State) : Result := bitReg 2 .C s
/-- `BIT 2,D` (R331). -/
def exec_bit_2_D (s : State) : Result := bitReg 2 .D s
/-- `BIT 2,E` (R331). -/
def exec_bit_2_E (s : State) : Result := bitReg 2 .E s
/-- `BIT 2,H` (R331). -/
def exec_bit_2_H (s : State) : Result := bitReg 2 .H s
/-- `BIT 2,L` (R331). -/
def exec_bit_2_L (s : State) : Result := bitReg 2 .L s
/-- `BIT 2,(HL)` (R332). -/
def exec_bit_2_indHL (s : State) : Result := bitMem 2 s
/-- `BIT 2,A` (R331). -/
def exec_bit_2_A (s : State) : Result := bitReg 2 .A s
/-- `BIT 3,B` (R331). -/
def exec_bit_3_B (s : State) : Result := bitReg 3 .B s
/-- `BIT 3,C` (R331). -/
def exec_bit_3_C (s : State) : Result := bitReg 3 .C s
/-- `BIT 3,D` (R331). -/
def exec_bit_3_D (s : State) : Result := bitReg 3 .D s
/-- `BIT 3,E` (R331). -/
def exec_bit_3_E (s : State) : Result := bitReg 3 .E s
/-- `BIT 3,H` (R331). -/
def exec_bit_3_H (s : State) : Result := bitReg 3 .H s
/-- `BIT 3,L` (R331). -/
def exec_bit_3_L (s : State) : Result := bitReg 3 .L s
/-- `BIT 3,(HL)` (R332). -/
def exec_bit_3_indHL (s : State) : Result := bitMem 3 s
/-- `BIT 3,A` (R331). -/
def exec_bit_3_A (s : State) : Result := bitReg 3 .A s
/-- `BIT 4,B` (R331). -/
def exec_bit_4_B (s : State) : Result := bitReg 4 .B s
/-- `BIT 4,C` (R331). -/
def exec_bit_4_C (s : State) : Result := bitReg 4 .C s
/-- `BIT 4,D` (R331). -/
def exec_bit_4_D (s : State) : Result := bitReg 4 .D s
/-- `BIT 4,E` (R331). -/
def exec_bit_4_E (s : State) : Result := bitReg 4 .E s
/-- `BIT 4,H` (R331). -/
def exec_bit_4_H (s : State) : Result := bitReg 4 .H s
/-- `BIT 4,L` (R331). -/
def exec_bit_4_L (s : State) : Result := bitReg 4 .L s
/-- `BIT 4,(HL)` (R332). -/
def exec_bit_4_indHL (s : State) : Result := bitMem 4 s
/-- `BIT 4,A` (R331). -/
def exec_bit_4_A (s : State) : Result := bitReg 4 .A s
/-- `BIT 5,B` (R331). -/
def exec_bit_5_B (s : State) : Result := bitReg 5 .B s
/-- `BIT 5,C` (R331). -/
def exec_bit_5_C (s : State) : Result := bitReg 5 .C s
/-- `BIT 5,D` (R331). -/
def exec_bit_5_D (s : State) : Result := bitReg 5 .D s
/-- `BIT 5,E` (R331). -/
def exec_bit_5_E (s : State) : Result := bitReg 5 .E s
/-- `BIT 5,H` (R331). -/
def exec_bit_5_H (s : State) : Result := bitReg 5 .H s
/-- `BIT 5,L` (R331). -/
def exec_bit_5_L (s : State) : Result := bitReg 5 .L s
/-- `BIT 5,(HL)` (R332). -/
def exec_bit_5_indHL (s : State) : Result := bitMem 5 s
/-- `BIT 5,A` (R331). -/
def exec_bit_5_A (s : State) : Result := bitReg 5 .A s
/-- `BIT 6,B` (R331). -/
def exec_bit_6_B (s : State) : Result := bitReg 6 .B s
/-- `BIT 6,C` (R331). -/
def exec_bit_6_C (s : State) : Result := bitReg 6 .C s
/-- `BIT 6,D` (R331). -/
def exec_bit_6_D (s : State) : Result := bitReg 6 .D s
/-- `BIT 6,E` (R331). -/
def exec_bit_6_E (s : State) : Result := bitReg 6 .E s
/-- `BIT 6,H` (R331). -/
def exec_bit_6_H (s : State) : Result := bitReg 6 .H s
/-- `BIT 6,L` (R331). -/
def exec_bit_6_L (s : State) : Result := bitReg 6 .L s
/-- `BIT 6,(HL)` (R332). -/
def exec_bit_6_indHL (s : State) : Result := bitMem 6 s
/-- `BIT 6,A` (R331). -/
def exec_bit_6_A (s : State) : Result := bitReg 6 .A s
/-- `BIT 7,B` (R331). -/
def exec_bit_7_B (s : State) : Result := bitReg 7 .B s
/-- `BIT 7,C` (R331). -/
def exec_bit_7_C (s : State) : Result := bitReg 7 .C s
/-- `BIT 7,D` (R331). -/
def exec_bit_7_D (s : State) : Result := bitReg 7 .D s
/-- `BIT 7,E` (R331). -/
def exec_bit_7_E (s : State) : Result := bitReg 7 .E s
/-- `BIT 7,H` (R331). -/
def exec_bit_7_H (s : State) : Result := bitReg 7 .H s
/-- `BIT 7,L` (R331). -/
def exec_bit_7_L (s : State) : Result := bitReg 7 .L s
/-- `BIT 7,(HL)` (R332). -/
def exec_bit_7_indHL (s : State) : Result := bitMem 7 s
/-- `BIT 7,A` (R331). -/
def exec_bit_7_A (s : State) : Result := bitReg 7 .A s
/-- `RES 0,B` (R333). -/
def exec_res_0_B (s : State) : Result := resBitReg 0 .B s
/-- `RES 0,C` (R333). -/
def exec_res_0_C (s : State) : Result := resBitReg 0 .C s
/-- `RES 0,D` (R333). -/
def exec_res_0_D (s : State) : Result := resBitReg 0 .D s
/-- `RES 0,E` (R333). -/
def exec_res_0_E (s : State) : Result := resBitReg 0 .E s
/-- `RES 0,H` (R333). -/
def exec_res_0_H (s : State) : Result := resBitReg 0 .H s
/-- `RES 0,L` (R333). -/
def exec_res_0_L (s : State) : Result := resBitReg 0 .L s
/-- `RES 0,(HL)` (R334). -/
def exec_res_0_indHL (s : State) : Result := resBitMem 0 s
/-- `RES 0,A` (R333). -/
def exec_res_0_A (s : State) : Result := resBitReg 0 .A s
/-- `RES 1,B` (R333). -/
def exec_res_1_B (s : State) : Result := resBitReg 1 .B s
/-- `RES 1,C` (R333). -/
def exec_res_1_C (s : State) : Result := resBitReg 1 .C s
/-- `RES 1,D` (R333). -/
def exec_res_1_D (s : State) : Result := resBitReg 1 .D s
/-- `RES 1,E` (R333). -/
def exec_res_1_E (s : State) : Result := resBitReg 1 .E s
/-- `RES 1,H` (R333). -/
def exec_res_1_H (s : State) : Result := resBitReg 1 .H s
/-- `RES 1,L` (R333). -/
def exec_res_1_L (s : State) : Result := resBitReg 1 .L s
/-- `RES 1,(HL)` (R334). -/
def exec_res_1_indHL (s : State) : Result := resBitMem 1 s
/-- `RES 1,A` (R333). -/
def exec_res_1_A (s : State) : Result := resBitReg 1 .A s
/-- `RES 2,B` (R333). -/
def exec_res_2_B (s : State) : Result := resBitReg 2 .B s
/-- `RES 2,C` (R333). -/
def exec_res_2_C (s : State) : Result := resBitReg 2 .C s
/-- `RES 2,D` (R333). -/
def exec_res_2_D (s : State) : Result := resBitReg 2 .D s
/-- `RES 2,E` (R333). -/
def exec_res_2_E (s : State) : Result := resBitReg 2 .E s
/-- `RES 2,H` (R333). -/
def exec_res_2_H (s : State) : Result := resBitReg 2 .H s
/-- `RES 2,L` (R333). -/
def exec_res_2_L (s : State) : Result := resBitReg 2 .L s
/-- `RES 2,(HL)` (R334). -/
def exec_res_2_indHL (s : State) : Result := resBitMem 2 s
/-- `RES 2,A` (R333). -/
def exec_res_2_A (s : State) : Result := resBitReg 2 .A s
/-- `RES 3,B` (R333). -/
def exec_res_3_B (s : State) : Result := resBitReg 3 .B s
/-- `RES 3,C` (R333). -/
def exec_res_3_C (s : State) : Result := resBitReg 3 .C s
/-- `RES 3,D` (R333). -/
def exec_res_3_D (s : State) : Result := resBitReg 3 .D s
/-- `RES 3,E` (R333). -/
def exec_res_3_E (s : State) : Result := resBitReg 3 .E s
/-- `RES 3,H` (R333). -/
def exec_res_3_H (s : State) : Result := resBitReg 3 .H s
/-- `RES 3,L` (R333). -/
def exec_res_3_L (s : State) : Result := resBitReg 3 .L s
/-- `RES 3,(HL)` (R334). -/
def exec_res_3_indHL (s : State) : Result := resBitMem 3 s
/-- `RES 3,A` (R333). -/
def exec_res_3_A (s : State) : Result := resBitReg 3 .A s
/-- `RES 4,B` (R333). -/
def exec_res_4_B (s : State) : Result := resBitReg 4 .B s
/-- `RES 4,C` (R333). -/
def exec_res_4_C (s : State) : Result := resBitReg 4 .C s
/-- `RES 4,D` (R333). -/
def exec_res_4_D (s : State) : Result := resBitReg 4 .D s
/-- `RES 4,E` (R333). -/
def exec_res_4_E (s : State) : Result := resBitReg 4 .E s
/-- `RES 4,H` (R333). -/
def exec_res_4_H (s : State) : Result := resBitReg 4 .H s
/-- `RES 4,L` (R333). -/
def exec_res_4_L (s : State) : Result := resBitReg 4 .L s
/-- `RES 4,(HL)` (R334). -/
def exec_res_4_indHL (s : State) : Result := resBitMem 4 s
/-- `RES 4,A` (R333). -/
def exec_res_4_A (s : State) : Result := resBitReg 4 .A s
/-- `RES 5,B` (R333). -/
def exec_res_5_B (s : State) : Result := resBitReg 5 .B s
/-- `RES 5,C` (R333). -/
def exec_res_5_C (s : State) : Result := resBitReg 5 .C s
/-- `RES 5,D` (R333). -/
def exec_res_5_D (s : State) : Result := resBitReg 5 .D s
/-- `RES 5,E` (R333). -/
def exec_res_5_E (s : State) : Result := resBitReg 5 .E s
/-- `RES 5,H` (R333). -/
def exec_res_5_H (s : State) : Result := resBitReg 5 .H s
/-- `RES 5,L` (R333). -/
def exec_res_5_L (s : State) : Result := resBitReg 5 .L s
/-- `RES 5,(HL)` (R334). -/
def exec_res_5_indHL (s : State) : Result := resBitMem 5 s
/-- `RES 5,A` (R333). -/
def exec_res_5_A (s : State) : Result := resBitReg 5 .A s
/-- `RES 6,B` (R333). -/
def exec_res_6_B (s : State) : Result := resBitReg 6 .B s
/-- `RES 6,C` (R333). -/
def exec_res_6_C (s : State) : Result := resBitReg 6 .C s
/-- `RES 6,D` (R333). -/
def exec_res_6_D (s : State) : Result := resBitReg 6 .D s
/-- `RES 6,E` (R333). -/
def exec_res_6_E (s : State) : Result := resBitReg 6 .E s
/-- `RES 6,H` (R333). -/
def exec_res_6_H (s : State) : Result := resBitReg 6 .H s
/-- `RES 6,L` (R333). -/
def exec_res_6_L (s : State) : Result := resBitReg 6 .L s
/-- `RES 6,(HL)` (R334). -/
def exec_res_6_indHL (s : State) : Result := resBitMem 6 s
/-- `RES 6,A` (R333). -/
def exec_res_6_A (s : State) : Result := resBitReg 6 .A s
/-- `RES 7,B` (R333). -/
def exec_res_7_B (s : State) : Result := resBitReg 7 .B s
/-- `RES 7,C` (R333). -/
def exec_res_7_C (s : State) : Result := resBitReg 7 .C s
/-- `RES 7,D` (R333). -/
def exec_res_7_D (s : State) : Result := resBitReg 7 .D s
/-- `RES 7,E` (R333). -/
def exec_res_7_E (s : State) : Result := resBitReg 7 .E s
/-- `RES 7,H` (R333). -/
def exec_res_7_H (s : State) : Result := resBitReg 7 .H s
/-- `RES 7,L` (R333). -/
def exec_res_7_L (s : State) : Result := resBitReg 7 .L s
/-- `RES 7,(HL)` (R334). -/
def exec_res_7_indHL (s : State) : Result := resBitMem 7 s
/-- `RES 7,A` (R333). -/
def exec_res_7_A (s : State) : Result := resBitReg 7 .A s
/-- `SET 0,B` (R335). -/
def exec_set_0_B (s : State) : Result := setBitReg 0 .B s
/-- `SET 0,C` (R335). -/
def exec_set_0_C (s : State) : Result := setBitReg 0 .C s
/-- `SET 0,D` (R335). -/
def exec_set_0_D (s : State) : Result := setBitReg 0 .D s
/-- `SET 0,E` (R335). -/
def exec_set_0_E (s : State) : Result := setBitReg 0 .E s
/-- `SET 0,H` (R335). -/
def exec_set_0_H (s : State) : Result := setBitReg 0 .H s
/-- `SET 0,L` (R335). -/
def exec_set_0_L (s : State) : Result := setBitReg 0 .L s
/-- `SET 0,(HL)` (R336). -/
def exec_set_0_indHL (s : State) : Result := setBitMem 0 s
/-- `SET 0,A` (R335). -/
def exec_set_0_A (s : State) : Result := setBitReg 0 .A s
/-- `SET 1,B` (R335). -/
def exec_set_1_B (s : State) : Result := setBitReg 1 .B s
/-- `SET 1,C` (R335). -/
def exec_set_1_C (s : State) : Result := setBitReg 1 .C s
/-- `SET 1,D` (R335). -/
def exec_set_1_D (s : State) : Result := setBitReg 1 .D s
/-- `SET 1,E` (R335). -/
def exec_set_1_E (s : State) : Result := setBitReg 1 .E s
/-- `SET 1,H` (R335). -/
def exec_set_1_H (s : State) : Result := setBitReg 1 .H s
/-- `SET 1,L` (R335). -/
def exec_set_1_L (s : State) : Result := setBitReg 1 .L s
/-- `SET 1,(HL)` (R336). -/
def exec_set_1_indHL (s : State) : Result := setBitMem 1 s
/-- `SET 1,A` (R335). -/
def exec_set_1_A (s : State) : Result := setBitReg 1 .A s
/-- `SET 2,B` (R335). -/
def exec_set_2_B (s : State) : Result := setBitReg 2 .B s
/-- `SET 2,C` (R335). -/
def exec_set_2_C (s : State) : Result := setBitReg 2 .C s
/-- `SET 2,D` (R335). -/
def exec_set_2_D (s : State) : Result := setBitReg 2 .D s
/-- `SET 2,E` (R335). -/
def exec_set_2_E (s : State) : Result := setBitReg 2 .E s
/-- `SET 2,H` (R335). -/
def exec_set_2_H (s : State) : Result := setBitReg 2 .H s
/-- `SET 2,L` (R335). -/
def exec_set_2_L (s : State) : Result := setBitReg 2 .L s
/-- `SET 2,(HL)` (R336). -/
def exec_set_2_indHL (s : State) : Result := setBitMem 2 s
/-- `SET 2,A` (R335). -/
def exec_set_2_A (s : State) : Result := setBitReg 2 .A s
/-- `SET 3,B` (R335). -/
def exec_set_3_B (s : State) : Result := setBitReg 3 .B s
/-- `SET 3,C` (R335). -/
def exec_set_3_C (s : State) : Result := setBitReg 3 .C s
/-- `SET 3,D` (R335). -/
def exec_set_3_D (s : State) : Result := setBitReg 3 .D s
/-- `SET 3,E` (R335). -/
def exec_set_3_E (s : State) : Result := setBitReg 3 .E s
/-- `SET 3,H` (R335). -/
def exec_set_3_H (s : State) : Result := setBitReg 3 .H s
/-- `SET 3,L` (R335). -/
def exec_set_3_L (s : State) : Result := setBitReg 3 .L s
/-- `SET 3,(HL)` (R336). -/
def exec_set_3_indHL (s : State) : Result := setBitMem 3 s
/-- `SET 3,A` (R335). -/
def exec_set_3_A (s : State) : Result := setBitReg 3 .A s
/-- `SET 4,B` (R335). -/
def exec_set_4_B (s : State) : Result := setBitReg 4 .B s
/-- `SET 4,C` (R335). -/
def exec_set_4_C (s : State) : Result := setBitReg 4 .C s
/-- `SET 4,D` (R335). -/
def exec_set_4_D (s : State) : Result := setBitReg 4 .D s
/-- `SET 4,E` (R335). -/
def exec_set_4_E (s : State) : Result := setBitReg 4 .E s
/-- `SET 4,H` (R335). -/
def exec_set_4_H (s : State) : Result := setBitReg 4 .H s
/-- `SET 4,L` (R335). -/
def exec_set_4_L (s : State) : Result := setBitReg 4 .L s
/-- `SET 4,(HL)` (R336). -/
def exec_set_4_indHL (s : State) : Result := setBitMem 4 s
/-- `SET 4,A` (R335). -/
def exec_set_4_A (s : State) : Result := setBitReg 4 .A s
/-- `SET 5,B` (R335). -/
def exec_set_5_B (s : State) : Result := setBitReg 5 .B s
/-- `SET 5,C` (R335). -/
def exec_set_5_C (s : State) : Result := setBitReg 5 .C s
/-- `SET 5,D` (R335). -/
def exec_set_5_D (s : State) : Result := setBitReg 5 .D s
/-- `SET 5,E` (R335). -/
def exec_set_5_E (s : State) : Result := setBitReg 5 .E s
/-- `SET 5,H` (R335). -/
def exec_set_5_H (s : State) : Result := setBitReg 5 .H s
/-- `SET 5,L` (R335). -/
def exec_set_5_L (s : State) : Result := setBitReg 5 .L s
/-- `SET 5,(HL)` (R336). -/
def exec_set_5_indHL (s : State) : Result := setBitMem 5 s
/-- `SET 5,A` (R335). -/
def exec_set_5_A (s : State) : Result := setBitReg 5 .A s
/-- `SET 6,B` (R335). -/
def exec_set_6_B (s : State) : Result := setBitReg 6 .B s
/-- `SET 6,C` (R335). -/
def exec_set_6_C (s : State) : Result := setBitReg 6 .C s
/-- `SET 6,D` (R335). -/
def exec_set_6_D (s : State) : Result := setBitReg 6 .D s
/-- `SET 6,E` (R335). -/
def exec_set_6_E (s : State) : Result := setBitReg 6 .E s
/-- `SET 6,H` (R335). -/
def exec_set_6_H (s : State) : Result := setBitReg 6 .H s
/-- `SET 6,L` (R335). -/
def exec_set_6_L (s : State) : Result := setBitReg 6 .L s
/-- `SET 6,(HL)` (R336). -/
def exec_set_6_indHL (s : State) : Result := setBitMem 6 s
/-- `SET 6,A` (R335). -/
def exec_set_6_A (s : State) : Result := setBitReg 6 .A s
/-- `SET 7,B` (R335). -/
def exec_set_7_B (s : State) : Result := setBitReg 7 .B s
/-- `SET 7,C` (R335). -/
def exec_set_7_C (s : State) : Result := setBitReg 7 .C s
/-- `SET 7,D` (R335). -/
def exec_set_7_D (s : State) : Result := setBitReg 7 .D s
/-- `SET 7,E` (R335). -/
def exec_set_7_E (s : State) : Result := setBitReg 7 .E s
/-- `SET 7,H` (R335). -/
def exec_set_7_H (s : State) : Result := setBitReg 7 .H s
/-- `SET 7,L` (R335). -/
def exec_set_7_L (s : State) : Result := setBitReg 7 .L s
/-- `SET 7,(HL)` (R336). -/
def exec_set_7_indHL (s : State) : Result := setBitMem 7 s
/-- `SET 7,A` (R335). -/
def exec_set_7_A (s : State) : Result := setBitReg 7 .A s

end Sys2Proof.Machine
end

