-- ==== Sys2Proof/Machine/CpuControl.lean ====
section
/-! DEFINITION. The CPU control instructions (spec 46_cpu_control.md R370-R376): the shared operations, then one meaning
per row. -/
namespace Sys2Proof.Machine

/-- An unassigned opcode: `raise OpcodeError(op, pc0)`, "nothing else changes" (R376). -/
def raiseOpcodeError (op : Byte) (s : State) : Result := .next (s.raise (.opcodeError op s.pc))

/-- The instruction that a second byte selects, run from its fields: the operation `x`, the code or bit number `y`, the
operand `z` (R375, 30_encoding.md R165). -/
def selectCB (op2 : Byte) (s : State) : Result :=
  match fieldX op2, Operand8.ofCode (fieldZ op2) with
  | 0, .reg r => shiftReg (ShiftOp.ofCode (fieldY op2)) r s
  | 0, .indHL => shiftMem (ShiftOp.ofCode (fieldY op2)) s
  | 1, .reg r => bitReg (Fin.ofNat 8 (fieldY op2)) r s
  | 1, .indHL => bitMem (Fin.ofNat 8 (fieldY op2)) s
  | 2, .reg r => resBitReg (Fin.ofNat 8 (fieldY op2)) r s
  | 2, .indHL => resBitMem (Fin.ofNat 8 (fieldY op2)) s
  | _, .reg r => setBitReg (Fin.ofNat 8 (fieldY op2)) r s
  | _, .indHL => setBitMem (Fin.ofNat 8 (fieldY op2)) s

/-! ## One meaning per row -/

/-- `NOP` (R370). -/
def exec_nop (s : State) : Result := .next (s.finish 1 4)
/-- `STOP` (R372). -/
def exec_stop (_ignored : Byte) (s : State) : Result := .next { s.finish 2 4 with run := .stopped }
/-- `HALT` (R371). -/
def exec_halt (s : State) : Result := .next { s.finish 1 4 with run := .halted }
/-- `PREFIX CB` (R375). -/
def exec_prefix_CB (op2 : Byte) (s : State) : Result := selectCB op2 s
/-- `UNASSIGNED 0xD3` (R376). -/
def exec_unassigned_D3 (s : State) : Result := raiseOpcodeError 0xD3#8 s
/-- `UNASSIGNED 0xDB` (R376). -/
def exec_unassigned_DB (s : State) : Result := raiseOpcodeError 0xDB#8 s
/-- `UNASSIGNED 0xDD` (R376). -/
def exec_unassigned_DD (s : State) : Result := raiseOpcodeError 0xDD#8 s
/-- `UNASSIGNED 0xE3` (R376). -/
def exec_unassigned_E3 (s : State) : Result := raiseOpcodeError 0xE3#8 s
/-- `UNASSIGNED 0xE4` (R376). -/
def exec_unassigned_E4 (s : State) : Result := raiseOpcodeError 0xE4#8 s
/-- `UNASSIGNED 0xEB` (R376). -/
def exec_unassigned_EB (s : State) : Result := raiseOpcodeError 0xEB#8 s
/-- `UNASSIGNED 0xEC` (R376). -/
def exec_unassigned_EC (s : State) : Result := raiseOpcodeError 0xEC#8 s
/-- `UNASSIGNED 0xED` (R376). -/
def exec_unassigned_ED (s : State) : Result := raiseOpcodeError 0xED#8 s
/-- `DI` (R373). -/
def exec_di (s : State) : Result := .next { s.finish 1 4 with ime := false, eiPending := false }
/-- `UNASSIGNED 0xF4` (R376). -/
def exec_unassigned_F4 (s : State) : Result := raiseOpcodeError 0xF4#8 s
/-- `EI` (R374). -/
def exec_ei (s : State) : Result := .next { s.finish 1 4 with eiPending := true }
/-- `UNASSIGNED 0xFC` (R376). -/
def exec_unassigned_FC (s : State) : Result := raiseOpcodeError 0xFC#8 s
/-- `UNASSIGNED 0xFD` (R376). -/
def exec_unassigned_FD (s : State) : Result := raiseOpcodeError 0xFD#8 s

end Sys2Proof.Machine
end

