-- ==== Sys2Proof/Machine/Load16.lean ====
section
/-! DEFINITION. The 16-bit loads and the stack instructions (spec 41_load16_stack.md R230-R237): the shared operations,
then one meaning per row. -/
namespace Sys2Proof.Machine

/-- `LD rr,d16`: `x[rr] <- d16; pc <- next`, 12 cycles (R230). -/
def loadPairImm (rr : Pair) (d16 : Word) (s : State) : Result := .next ((s.setPair rr d16).finish 3 12)

/-- `PUSH qq`: `Push16(x[qq]); pc <- next`, 16 cycles (R234, R235). -/
def pushPair (qq : StackPair) (s : State) : Result := (s.push16 (s.stackPair qq)).finish fun _ t => t.finish 1 16

/-- `POP qq`: `x[qq] <- Pop16(); pc <- next`, 12 cycles (R236, R237). -/
def popPair (qq : StackPair) (s : State) : Result := s.pop16.finish fun v t => (t.setStackPair qq v).finish 1 12

/-- `LD (a16),SP`: `AddressError(0x10000)` when the second byte would lie above 0xFFFF, else low byte then high byte,
20 cycles (R231). -/
def storeSp (a16 : Word) (s : State) : Result :=
  if a16 = 0xFFFF#16 then .next (s.raise (.addressError 0x10000))
  else .next (((s.busWrite a16 (loByte s.sp)).busWrite (a16 + 1) (hiByte s.sp)).finish 3 20)

/-! ## One meaning per row -/

/-- `LD BC,d16` (R230). -/
def exec_ld_BC_d16 (d16 : Word) (s : State) : Result := loadPairImm .BC d16 s
/-- `LD (a16),SP` (R231). -/
def exec_ld_ind_a16_SP (a16 : Word) (s : State) : Result := storeSp a16 s
/-- `LD DE,d16` (R230). -/
def exec_ld_DE_d16 (d16 : Word) (s : State) : Result := loadPairImm .DE d16 s
/-- `LD HL,d16` (R230). -/
def exec_ld_HL_d16 (d16 : Word) (s : State) : Result := loadPairImm .HL d16 s
/-- `LD SP,d16` (R230). -/
def exec_ld_SP_d16 (d16 : Word) (s : State) : Result := loadPairImm .SP d16 s
/-- `POP BC` (R236). -/
def exec_pop_BC (s : State) : Result := popPair .BC s
/-- `PUSH BC` (R234). -/
def exec_push_BC (s : State) : Result := pushPair .BC s
/-- `POP DE` (R236). -/
def exec_pop_DE (s : State) : Result := popPair .DE s
/-- `PUSH DE` (R234). -/
def exec_push_DE (s : State) : Result := pushPair .DE s
/-- `POP HL` (R236). -/
def exec_pop_HL (s : State) : Result := popPair .HL s
/-- `PUSH HL` (R234). -/
def exec_push_HL (s : State) : Result := pushPair .HL s
/-- `POP AF` (R237). -/
def exec_pop_AF (s : State) : Result := popPair .AF s
/-- `PUSH AF` (R235). -/
def exec_push_AF (s : State) : Result := pushPair .AF s
/-- `LD HL,SP+e8` (R233). -/
def exec_ld_HL_SPe8 (e8 : Byte) (s : State) : Result :=
  .next (((s.setHL (addSpOffset s.sp e8).1).setFlags (addSpOffset s.sp e8).2).finish 2 12)
/-- `LD SP,HL` (R232). -/
def exec_ld_SP_HL (s : State) : Result := .next ((s.setSp s.hl).finish 1 8)

end Sys2Proof.Machine
end

