-- ==== Sys2Proof/Machine/Load8.lean ====
section
/-! DEFINITION. The 8-bit loads (spec 40_load8.md R200-R218): the shared operations, then one meaning per row. A meaning
starts with its opcode and operand bytes fetched and `pc = pc0`. -/
namespace Sys2Proof.Machine

/-- `LD r,r'`: `x[r] <- x[r']; pc <- next`, 4 cycles (R200). -/
def copyReg (dst src : Reg8) (s : State) : Result := .next ((s.setReg dst (s.reg src)).finish 1 4)

/-- `LD r,d8`: `x[r] <- d8; pc <- next`, 8 cycles (R201). -/
def loadImm (dst : Reg8) (d8 : Byte) (s : State) : Result := .next ((s.setReg dst d8).finish 2 8)

/-- `x[dst] <- BusRead(a); pc <- next` for an instruction of `len` bytes and `n` cycles (R202, R205, R206, R209, R211,
R213). -/
def loadFrom (dst : Reg8) (a : Word) (len n : Nat) (s : State) : Result :=
  (s.busRead a).finish fun v t => (t.setReg dst v).finish len n

/-- `BusWrite(a, v); pc <- next` for an instruction of `len` bytes and `n` cycles (R203, R204, R207, R208, R210, R212,
R214). -/
def storeTo (a : Word) (v : Byte) (len n : Nat) (s : State) : Result := .next ((s.busWrite a v).finish len n)

/-- `LD (HL+),A`, `LD (HL-),A`: the store at the old `HL`, then the step of `HL`, 8 cycles (R215, R217). -/
def storeStep (p : PostStep) (s : State) : Result :=
  .next (((s.busWrite s.hl s.regs.a).setHL (p.apply s.hl)).finish 1 8)

/-- `LD A,(HL+)`, `LD A,(HL-)`: the load at the old `HL`, then the step of `HL`, 8 cycles (R216, R218). -/
def loadStep (p : PostStep) (s : State) : Result :=
  (s.busRead s.hl).finish fun v t => ((t.setReg .A v).setHL (p.apply s.hl)).finish 1 8

/-! ## One meaning per row -/

/-- `LD (BC),A` (R207). -/
def exec_ld_indBC_A (s : State) : Result := storeTo s.bc s.regs.a 1 8 s
/-- `LD B,d8` (R201). -/
def exec_ld_B_d8 (d8 : Byte) (s : State) : Result := loadImm .B d8 s
/-- `LD A,(BC)` (R205). -/
def exec_ld_A_indBC (s : State) : Result := loadFrom .A s.bc 1 8 s
/-- `LD C,d8` (R201). -/
def exec_ld_C_d8 (d8 : Byte) (s : State) : Result := loadImm .C d8 s
/-- `LD (DE),A` (R208). -/
def exec_ld_indDE_A (s : State) : Result := storeTo s.de s.regs.a 1 8 s
/-- `LD D,d8` (R201). -/
def exec_ld_D_d8 (d8 : Byte) (s : State) : Result := loadImm .D d8 s
/-- `LD A,(DE)` (R206). -/
def exec_ld_A_indDE (s : State) : Result := loadFrom .A s.de 1 8 s
/-- `LD E,d8` (R201). -/
def exec_ld_E_d8 (d8 : Byte) (s : State) : Result := loadImm .E d8 s
/-- `LD (HL+),A` (R215). -/
def exec_ld_indHLinc_A (s : State) : Result := storeStep .inc s
/-- `LD H,d8` (R201). -/
def exec_ld_H_d8 (d8 : Byte) (s : State) : Result := loadImm .H d8 s
/-- `LD A,(HL+)` (R216). -/
def exec_ld_A_indHLinc (s : State) : Result := loadStep .inc s
/-- `LD L,d8` (R201). -/
def exec_ld_L_d8 (d8 : Byte) (s : State) : Result := loadImm .L d8 s
/-- `LD (HL-),A` (R217). -/
def exec_ld_indHLdec_A (s : State) : Result := storeStep .dec s
/-- `LD (HL),d8` (R204). -/
def exec_ld_indHL_d8 (d8 : Byte) (s : State) : Result := storeTo s.hl d8 2 12 s
/-- `LD A,(HL-)` (R218). -/
def exec_ld_A_indHLdec (s : State) : Result := loadStep .dec s
/-- `LD A,d8` (R201). -/
def exec_ld_A_d8 (d8 : Byte) (s : State) : Result := loadImm .A d8 s
/-- `LD B,B` (R200). -/
def exec_ld_B_B (s : State) : Result := copyReg .B .B s
/-- `LD B,C` (R200). -/
def exec_ld_B_C (s : State) : Result := copyReg .B .C s
/-- `LD B,D` (R200). -/
def exec_ld_B_D (s : State) : Result := copyReg .B .D s
/-- `LD B,E` (R200). -/
def exec_ld_B_E (s : State) : Result := copyReg .B .E s
/-- `LD B,H` (R200). -/
def exec_ld_B_H (s : State) : Result := copyReg .B .H s
/-- `LD B,L` (R200). -/
def exec_ld_B_L (s : State) : Result := copyReg .B .L s
/-- `LD B,(HL)` (R202). -/
def exec_ld_B_indHL (s : State) : Result := loadFrom .B s.hl 1 8 s
/-- `LD B,A` (R200). -/
def exec_ld_B_A (s : State) : Result := copyReg .B .A s
/-- `LD C,B` (R200). -/
def exec_ld_C_B (s : State) : Result := copyReg .C .B s
/-- `LD C,C` (R200). -/
def exec_ld_C_C (s : State) : Result := copyReg .C .C s
/-- `LD C,D` (R200). -/
def exec_ld_C_D (s : State) : Result := copyReg .C .D s
/-- `LD C,E` (R200). -/
def exec_ld_C_E (s : State) : Result := copyReg .C .E s
/-- `LD C,H` (R200). -/
def exec_ld_C_H (s : State) : Result := copyReg .C .H s
/-- `LD C,L` (R200). -/
def exec_ld_C_L (s : State) : Result := copyReg .C .L s
/-- `LD C,(HL)` (R202). -/
def exec_ld_C_indHL (s : State) : Result := loadFrom .C s.hl 1 8 s
/-- `LD C,A` (R200). -/
def exec_ld_C_A (s : State) : Result := copyReg .C .A s
/-- `LD D,B` (R200). -/
def exec_ld_D_B (s : State) : Result := copyReg .D .B s
/-- `LD D,C` (R200). -/
def exec_ld_D_C (s : State) : Result := copyReg .D .C s
/-- `LD D,D` (R200). -/
def exec_ld_D_D (s : State) : Result := copyReg .D .D s
/-- `LD D,E` (R200). -/
def exec_ld_D_E (s : State) : Result := copyReg .D .E s
/-- `LD D,H` (R200). -/
def exec_ld_D_H (s : State) : Result := copyReg .D .H s
/-- `LD D,L` (R200). -/
def exec_ld_D_L (s : State) : Result := copyReg .D .L s
/-- `LD D,(HL)` (R202). -/
def exec_ld_D_indHL (s : State) : Result := loadFrom .D s.hl 1 8 s
/-- `LD D,A` (R200). -/
def exec_ld_D_A (s : State) : Result := copyReg .D .A s
/-- `LD E,B` (R200). -/
def exec_ld_E_B (s : State) : Result := copyReg .E .B s
/-- `LD E,C` (R200). -/
def exec_ld_E_C (s : State) : Result := copyReg .E .C s
/-- `LD E,D` (R200). -/
def exec_ld_E_D (s : State) : Result := copyReg .E .D s
/-- `LD E,E` (R200). -/
def exec_ld_E_E (s : State) : Result := copyReg .E .E s
/-- `LD E,H` (R200). -/
def exec_ld_E_H (s : State) : Result := copyReg .E .H s
/-- `LD E,L` (R200). -/
def exec_ld_E_L (s : State) : Result := copyReg .E .L s
/-- `LD E,(HL)` (R202). -/
def exec_ld_E_indHL (s : State) : Result := loadFrom .E s.hl 1 8 s
/-- `LD E,A` (R200). -/
def exec_ld_E_A (s : State) : Result := copyReg .E .A s
/-- `LD H,B` (R200). -/
def exec_ld_H_B (s : State) : Result := copyReg .H .B s
/-- `LD H,C` (R200). -/
def exec_ld_H_C (s : State) : Result := copyReg .H .C s
/-- `LD H,D` (R200). -/
def exec_ld_H_D (s : State) : Result := copyReg .H .D s
/-- `LD H,E` (R200). -/
def exec_ld_H_E (s : State) : Result := copyReg .H .E s
/-- `LD H,H` (R200). -/
def exec_ld_H_H (s : State) : Result := copyReg .H .H s
/-- `LD H,L` (R200). -/
def exec_ld_H_L (s : State) : Result := copyReg .H .L s
/-- `LD H,(HL)` (R202). -/
def exec_ld_H_indHL (s : State) : Result := loadFrom .H s.hl 1 8 s
/-- `LD H,A` (R200). -/
def exec_ld_H_A (s : State) : Result := copyReg .H .A s
/-- `LD L,B` (R200). -/
def exec_ld_L_B (s : State) : Result := copyReg .L .B s
/-- `LD L,C` (R200). -/
def exec_ld_L_C (s : State) : Result := copyReg .L .C s
/-- `LD L,D` (R200). -/
def exec_ld_L_D (s : State) : Result := copyReg .L .D s
/-- `LD L,E` (R200). -/
def exec_ld_L_E (s : State) : Result := copyReg .L .E s
/-- `LD L,H` (R200). -/
def exec_ld_L_H (s : State) : Result := copyReg .L .H s
/-- `LD L,L` (R200). -/
def exec_ld_L_L (s : State) : Result := copyReg .L .L s
/-- `LD L,(HL)` (R202). -/
def exec_ld_L_indHL (s : State) : Result := loadFrom .L s.hl 1 8 s
/-- `LD L,A` (R200). -/
def exec_ld_L_A (s : State) : Result := copyReg .L .A s
/-- `LD (HL),B` (R203). -/
def exec_ld_indHL_B (s : State) : Result := storeTo s.hl (s.reg .B) 1 8 s
/-- `LD (HL),C` (R203). -/
def exec_ld_indHL_C (s : State) : Result := storeTo s.hl (s.reg .C) 1 8 s
/-- `LD (HL),D` (R203). -/
def exec_ld_indHL_D (s : State) : Result := storeTo s.hl (s.reg .D) 1 8 s
/-- `LD (HL),E` (R203). -/
def exec_ld_indHL_E (s : State) : Result := storeTo s.hl (s.reg .E) 1 8 s
/-- `LD (HL),H` (R203). -/
def exec_ld_indHL_H (s : State) : Result := storeTo s.hl (s.reg .H) 1 8 s
/-- `LD (HL),L` (R203). -/
def exec_ld_indHL_L (s : State) : Result := storeTo s.hl (s.reg .L) 1 8 s
/-- `LD (HL),A` (R203). -/
def exec_ld_indHL_A (s : State) : Result := storeTo s.hl (s.reg .A) 1 8 s
/-- `LD A,B` (R200). -/
def exec_ld_A_B (s : State) : Result := copyReg .A .B s
/-- `LD A,C` (R200). -/
def exec_ld_A_C (s : State) : Result := copyReg .A .C s
/-- `LD A,D` (R200). -/
def exec_ld_A_D (s : State) : Result := copyReg .A .D s
/-- `LD A,E` (R200). -/
def exec_ld_A_E (s : State) : Result := copyReg .A .E s
/-- `LD A,H` (R200). -/
def exec_ld_A_H (s : State) : Result := copyReg .A .H s
/-- `LD A,L` (R200). -/
def exec_ld_A_L (s : State) : Result := copyReg .A .L s
/-- `LD A,(HL)` (R202). -/
def exec_ld_A_indHL (s : State) : Result := loadFrom .A s.hl 1 8 s
/-- `LD A,A` (R200). -/
def exec_ld_A_A (s : State) : Result := copyReg .A .A s
/-- `LDH (a8),A` (R212). -/
def exec_ldh_ind_a8_A (a8 : Byte) (s : State) : Result := storeTo (highPage a8) s.regs.a 2 12 s
/-- `LD (C),A` (R214). -/
def exec_ld_indC_A (s : State) : Result := storeTo (highPage s.regs.c) s.regs.a 1 8 s
/-- `LD (a16),A` (R210). -/
def exec_ld_ind_a16_A (a16 : Word) (s : State) : Result := storeTo a16 s.regs.a 3 16 s
/-- `LDH A,(a8)` (R211). -/
def exec_ldh_A_ind_a8 (a8 : Byte) (s : State) : Result := loadFrom .A (highPage a8) 2 12 s
/-- `LD A,(C)` (R213). -/
def exec_ld_A_indC (s : State) : Result := loadFrom .A (highPage s.regs.c) 1 8 s
/-- `LD A,(a16)` (R209). -/
def exec_ld_A_ind_a16 (a16 : Word) (s : State) : Result := loadFrom .A a16 3 16 s

end Sys2Proof.Machine
end

