-- ==== Sys2Proof/Machine/Clock.lean ====
section
/-! DEFINITION. The cycle clock's constants and the frame-boundary reduction (spec 50_clock_scheduler.md R400-R407). -/
namespace Sys2Proof.Machine

/-- `LINE_CYCLES = 80 + 170 + 206 = 456` (R402). -/
def lineCycles : Nat := 456

/-- `LINES_PER_FRAME` (R402). -/
def linesPerFrame : Nat := 154

/-- `FRAME_CYCLES = 456 x 154 = 70224` (R402). -/
def frameCycles : Nat := lineCycles * linesPerFrame

/-- `THRESH[mode]` (R402); the `VBlank` threshold is per line. -/
def thresh : PpuMode → Nat
  | .oam => 80
  | .transfer => 170
  | .hblank => 206
  | .vblank => 456

/-- `HALT_IDLE_CYCLES` (46_cpu_control.md R371). -/
def haltIdleCycles : Nat := 4

/-- The frame-boundary reduction: both counters "reduced modulo the frame-length constant", each to its own remainder
(R405). -/
def State.frameBoundary (s : State) : State :=
  { s with clkTotal := s.clkTotal % frameCycles, clkMode := s.clkMode % frameCycles }

/-- `cyclesUntilNextMode()` (R407). -/
def State.cyclesUntilNextMode (s : State) : Nat := s.clkMode + thresh s.ppuMode - s.clkTotal

/-- "cycles until next full frame" (R407). -/
def State.cyclesUntilNextFrame (s : State) : Nat := frameCycles + 1 - s.clkTotal

end Sys2Proof.Machine
end

