-- ==== Sys2Proof/Machine/Ppu.lean ====
section
/-! DEFINITION. The PPU: the mode machine `PpuTick` and the background renderer (spec 51_ppu.md). It reads `VRAM` bank 0 and
the I/O bytes directly, not through the bus (R441). -/
namespace Sys2Proof.Machine

/-- `SCREEN_W` (R448). -/
def screenW : Nat := 160

/-- `SCREEN_H` (00_scope.md R5). -/
def screenH : Nat := 144

/-- The size of the frame buffer, `SCREEN_W * SCREEN_H * 4` (R448). -/
def frameBufferSize : Nat := screenW * screenH * 4

/-- Bit `i` of `LCDC` (10_state.md R47). -/
def State.lcdc (s : State) (i : Nat) : Bool := (s.io 0x40).getLsbD i

/-- `LY` (10_state.md R50). -/
def State.ly (s : State) : Byte := s.io 0x44

/-! ## The scanline renderer (R440-R448) -/

/-- `VRAM[0][a - 0x8000]` (R441). -/
def State.vram0 (s : State) (a : Nat) : Byte := s.cell .vram (a - 0x8000)

/-- `MapBase()` (R443). -/
def State.mapBase (s : State) : Nat := if s.lcdc 3 then 0x9C00 else 0x9800

/-- `TileAddr(idx)`: unsigned from 0x8000, or signed from 0x9000 (R444). -/
def State.tileAddr (s : State) (idx : Byte) : Nat :=
  if s.lcdc 4 then 0x8000 + idx.toNat * 16 else (0x9000 + idx.toInt * 16).toNat

/-- The colour index of column `x` on line `ly`: scroll, tile map, tile row, bit planes (R442-R445). -/
def State.colourIndex (s : State) (ly x : Nat) : Nat :=
  let px := (x + (s.io 0x43).toNat) % 0x100
  let py := (ly + (s.io 0x42).toNat) % 0x100
  let idx := s.vram0 (s.mapBase + py / 8 * 32 + px / 8)
  let taddr := s.tileAddr idx + py % 8 * 2
  let bit := 7 - px % 8
  ((s.vram0 (taddr + 1)).getLsbD bit).toNat * 2 + ((s.vram0 taddr).getLsbD bit).toNat

/-- `shade = (BGP >> (ci * 2)) & 3` (R446). -/
def State.shadeOf (s : State) (ci : Nat) : Nat := (s.io 0x47).toNat / 2 ^ (ci * 2) % 4

/-- The four bytes of a pixel, R, G, B, A in increasing address, A always 0xFF (R446). -/
def State.pixel (s : State) (ly x : Nat) : List Byte :=
  let c := s.cfg.shade (s.shadeOf (s.colourIndex ly x))
  [c.r, c.g, c.b, 0xFF#8]

/-- The bytes of one line, column 0 first (R440). -/
def State.scanline (s : State) (ly : Nat) : List Byte := (List.range screenW).flatMap (s.pixel ly)

/-- `WindowPass(ly)` changes nothing (R447). -/
def State.windowPass (s : State) (_ly : Nat) : State := s

/-- `SpritePass(ly)` changes nothing (R447). -/
def State.spritePass (s : State) (_ly : Nat) : State := s

/-- The background of line `ly`, at bytes `ly * 640` to `ly * 640 + 639` of `FB` (R440, R448). -/
def State.renderBackground (s : State) (ly : Nat) : State :=
  { s with mem := s.mem.set .fb (s.mem.fb.writeBlock (ly * screenW * 4) (s.scanline ly)) }

/-- `RenderScanline(ly)`: background, then window if `LCDC` bit 5, then sprites if `LCDC` bit 1 (R440). -/
def State.renderScanline (s : State) (ly : Nat) : State :=
  let s1 := s.renderBackground ly
  let s2 := if s1.lcdc 5 then s1.windowPass ly else s1
  if s2.lcdc 1 then s2.spritePass ly else s2

/-! ## The mode machine (R431-R438) -/

/-- The transition that has fallen due: `clk.mode` moves by the threshold of the old mode, and the mode's own effect
happens (R432, R433). -/
def State.ppuTransition (s : State) : State :=
  let t := { s with clkMode := s.clkMode + thresh s.ppuMode }
  match s.ppuMode with
  | .oam => { t with ppuMode := .transfer }
  | .transfer =>
    let u := { t with ppuMode := .hblank }
    if s.ly.toNat ≤ 143 then u.renderScanline s.ly.toNat else u
  | .hblank =>
    if s.ly = 143#8 then
      { ((t.store .io 0x44 144#8).store .io 0x0F (s.io 0x0F ||| 0x01#8)) with ppuMode := .vblank }
    else { t.store .io 0x44 (s.ly + 1#8) with ppuMode := .oam }
  | .vblank =>
    if s.ly + 1#8 = 154#8 then { t.store .io 0x44 0#8 with ppuMode := .oam }
    else t.store .io 0x44 (s.ly + 1#8)

/-- `PpuTick()`: nothing when faulted, when the LCD is off (R434) or before the gate opens; else one transition (R433). -/
def State.ppuTick (s : State) : State :=
  if s.fault.isSome then s
  else if s.lcdc 7 = false then s
  else if s.clkTotal < s.clkMode + thresh s.ppuMode then s
  else s.ppuTransition

end Sys2Proof.Machine
end

