-- ==== Sys2Proof/Machine/Tick.lean ====
section
/-! DEFINITION. `CpuTick`, one iteration of the frame loop, and the frame loop itself (spec 30_encoding.md R150,
50_clock_scheduler.md R403). -/
namespace Sys2Proof.Machine

/-! ## The CPU tick -/

/-- The end of a tick's instruction: the delay of `EI` ends if `ei_pending` was set before the fetch and still is
(R150, 46_cpu_control.md R374). -/
def State.endEiDelay (wasPending : Bool) (s : State) : State :=
  if s.fault = none ∧ wasPending = true ∧ s.eiPending = true then { s with ime := true, eiPending := false } else s

/-- Go on with the next state of a result. -/
def onNext (r : Result) (k : State → Result) : Result :=
  match r with
  | .next s => k s
  | .fault f => .fault f
  | .refused x => .refused x

/-- Fetch and execute one instruction; a fault raised by the fetch ends the tick (R150, R151). -/
def State.runInstruction (s : State) : Result :=
  match s.fetch with
  | .raised t => .next t
  | .ok i t => exec i t

/-- `CpuTick()` (R150). -/
def State.cpuTick (s : State) : Result :=
  if s.fault.isSome then .next s
  else if s.run = .stopped then .next s
  else if s.interruptCheck.fault.isSome then .next s.interruptCheck
  else if s.interruptCheck.run = .halted then .next (s.interruptCheck.advance haltIdleCycles)
  else onNext s.interruptCheck.runInstruction fun t => .next (t.endEiDelay s.interruptCheck.eiPending)

/-! ## The frame loop -/

/-- The body of the frame loop: "tick CPU → tick PPU" (R403). -/
def State.tickPair (s : State) : Result := onNext s.cpuTick fun t => .next t.ppuTick

/-- The test of the frame loop: `clk.total <= FRAME_CYCLES and fault == none and run != Stopped` (R403). -/
def State.frameGoesOn (s : State) : Bool :=
  decide (s.clkTotal ≤ frameCycles) && s.fault.isNone && decide (s.run ≠ .stopped)

/-- What `RunFrame` returns (R403); the last constructor is the model's, for an instruction that `exec` turns away. -/
inductive FrameResult where
  | frameDone
  | faulted (f : Fault)
  | stoppedByProgram
  | refused (r : Refusal)
  deriving DecidableEq, Repr

/-- What `RunFrame` does when its loop ends (R403): the reduction, unless the machine is faulted or stopped. -/
def State.endFrame (s : State) : FrameResult × State :=
  match s.fault with
  | some f => (.faulted f, s)
  | none => if s.run = .stopped then (.stoppedByProgram, s) else (.frameDone, s.frameBoundary)

/-- The loop of `RunFrame`, at most `fuel` iterations. -/
def runLoop : Nat → State → FrameResult × State
  | 0, s => s.endFrame
  | fuel + 1, s =>
    if s.frameGoesOn then
      match s.tickPair with
      | .next t => runLoop fuel t
      | .fault f => (.faulted f, s)
      | .refused r => (.refused r, s)
    else s.endFrame

/-- `RunFrame()` (R403). Every iteration that does not end the loop adds at least 4 cycles (R406), so the loop ends before
this many iterations (log 14). -/
def State.runFrame (s : State) : FrameResult × State := runLoop (frameCycles + 1 - s.clkTotal) s

/-! ## Placing an instruction where the next fetch reads -/

/-- Byte `v` at offset `off` of the ROM image. -/
def State.placeRom (s : State) (off : Nat) (v : Byte) : State :=
  { s with cart := { s.cart with rom := { s.cart.rom with cells := s.cart.rom.cells.write off v } } }

/-- Byte `v` placed where a read of `a` returns it; an address that is no storage is left alone. -/
def State.placeByte (s : State) (a : Word) (v : Byte) : State :=
  match s.overlayByte a, s.boot with
  | some _, some img => { s with boot := some { img with cells := img.cells.write a.toNat v } }
  | _, _ =>
    match regionOf a with
    | .rom00 => s.placeRom (s.romOffset s.rom00Bank a) v
    | .romNN => s.placeRom (s.romOffset s.romNNBank a) v
    | .vram off => s.store .vram (s.vbank * 0x2000 + off) v
    | .xram off => (s.xramCell off).elim s (fun k => s.store .xram k v)
    | .wram0 off => s.store .wram off v
    | .wramN off => s.store .wram (s.wbank * 0x1000 + off) v
    | .oam off => s.store .oam off v
    | .unusable => s
    | .io off => if 0x30 ≤ off ∧ off ≤ 0x3F then s.store .wave (off - 0x30) v else s.store .io off v
    | .hram off => s.store .hram off v
    | .ie => { s with ie := v.setWidth 5 }

/-- A ROM image of at least 32 KiB, zero where it was shorter, if the three bytes at `pc` reach the ROM windows
(95_test_vectors.md, conventions; log 2). -/
def State.withRomForFetch (s : State) : State :=
  if (s.pc.toNat ≤ 0x7FFF ∨ 0xFFFE ≤ s.pc.toNat) ∧ s.cart.rom.size < 0x8000 then
    { s with cart := { s.cart with rom := { s.cart.rom with size := 0x8000 } } }
  else s

/-- The three bytes of an opcode-table word placed at `pc`, `pc + 1`, `pc + 2`. -/
def State.placeWord (s : State) (nbits w : Nat) : State :=
  let (b0, b1, b2) := tableBytes nbits w
  ((s.withRomForFetch.placeByte s.pc b0).placeByte (s.pc + 1) b1).placeByte (s.pc + 2) b2

end Sys2Proof.Machine
end

