-- ==== Sys2Proof/Machine/Step.lean ====
section
/-! DEFINITION. One step of the machine: one evaluation of the test and the body of the frame loop `RunFrame` (spec
50_clock_scheduler.md R403; log 4), and placing an instruction where the next step fetches it. -/
namespace Sys2Proof.Machine

/-- One step, as `RunFrame` takes it (R403). A faulted machine answers its fault: it is terminal (60_exceptions.md R501;
log 5). A stopped one changes nothing (46_cpu_control.md R372). Past the frame budget the two counters are reduced
(R405), and the host may act before the next step (R404). Otherwise `CpuTick` runs, then `PpuTick`. -/
def step (s : State) : Host.Outcome State Fault Refusal :=
  match s.fault with
  | some f => .fault f
  | none =>
    if s.run = .stopped then .next s
    else if frameCycles < s.clkTotal then .next s.frameBoundary
    else s.tickPair

/-- `s` with the opcode-table word `w` of `nbits` bits stored where `step` fetches its next instruction: at `pc`, in the
cartridge ROM image when `pc` lies there (log 2). -/
def State.withFetchWord (s : State) (nbits w : Nat) : State := s.placeWord nbits w

end Sys2Proof.Machine
end

