-- ==== Sys2Proof/Machine/Access.lean ====
section
/-! DEFINITION. What an instruction accesses, for statements: the storage cell behind a bus address, and the data addresses
an instruction reads and stores to, computed with the same functions that its meaning uses. -/
namespace Sys2Proof.Machine

/-- The storage cell that a bus write of `a` reaches, if it reaches one (20_memory.md R72, R85, R107). Bank-controller
registers, the unusable region, closed cartridge RAM, `VBK` and `SVBK` outside colour mode, and `IE` are no cells. Two
addresses with one cell are aliases (R82). -/
def State.target (s : State) (a : Word) : Option (ArrayName × Nat) :=
  match regionOf a with
  | .rom00 => none
  | .romNN => none
  | .vram off => some (.vram, s.vbank * 0x2000 + off)
  | .xram off => (s.xramCell off).map (fun k => (.xram, k))
  | .wram0 off => some (.wram, off)
  | .wramN off => some (.wram, s.wbank * 0x1000 + off)
  | .oam off => some (.oam, off)
  | .unusable => none
  | .io off =>
    if 0x30 ≤ off ∧ off ≤ 0x3F then some (.wave, off - 0x30)
    else if (off = 0x4F ∨ off = 0x70) ∧ s.colorMode = false then none
    else some (.io, off)
  | .hram off => some (.hram, off)
  | .ie => none

/-- The I/O offsets whose write does more than store the byte, or stores another byte (20_memory.md R90-R98, R135). -/
def specialIo : List Nat := [0x00, 0x04, 0x07, 0x0F, 0x4F, 0x50, 0x70]

/-- The address is plain storage: a write stores the byte in one cell, a read returns that cell, and neither has any other
effect on what the bus returns (20_memory.md R135). -/
def State.storesPlainly (s : State) (a : Word) : Bool :=
  (s.target a).isSome &&
    match regionOf a with
    | .io off => !specialIo.contains off
    | _ => true

/-- The addresses `Push16` stores to, high byte first; none where it raises `StackError` (20_memory.md R130). -/
def State.pushAddrs (s : State) : List Word := if s.sp < 0x0002#16 then [] else [s.sp - 1, s.sp - 2]

end Sys2Proof.Machine

namespace Sys2Proof
open Sys2Proof.Machine

/-- The addresses an instruction stores to, in the order of its stores. Every form that stores is listed; a conditional
call stores only when taken, and `LD (a16),SP` stores nothing where it raises `AddressError`. -/
def Instr.storeAddrs (i : Instr) (s : State) : List Word :=
  match i with
  | .ld_indHL_B => [s.hl]
  | .ld_indHL_C => [s.hl]
  | .ld_indHL_D => [s.hl]
  | .ld_indHL_E => [s.hl]
  | .ld_indHL_H => [s.hl]
  | .ld_indHL_L => [s.hl]
  | .ld_indHL_A => [s.hl]
  | .ld_indHL_d8 _ => [s.hl]
  | .ld_indBC_A => [s.bc]
  | .ld_indDE_A => [s.de]
  | .ld_ind_a16_A a16 => [a16]
  | .ldh_ind_a8_A a8 => [highPage a8]
  | .ld_indC_A => [highPage s.regs.c]
  | .ld_indHLinc_A => [s.hl]
  | .ld_indHLdec_A => [s.hl]
  | .ld_ind_a16_SP a16 => if a16 = 0xFFFF#16 then [] else [a16, a16 + 1]
  | .push_BC => s.pushAddrs
  | .push_DE => s.pushAddrs
  | .push_HL => s.pushAddrs
  | .push_AF => s.pushAddrs
  | .call_a16 _ => s.pushAddrs
  | .call_NZ_a16 _ => if s.flags.holds .NZ then s.pushAddrs else []
  | .call_Z_a16 _ => if s.flags.holds .Z then s.pushAddrs else []
  | .call_NC_a16 _ => if s.flags.holds .NC then s.pushAddrs else []
  | .call_C_a16 _ => if s.flags.holds .C then s.pushAddrs else []
  | .rst_00H => s.pushAddrs
  | .rst_08H => s.pushAddrs
  | .rst_10H => s.pushAddrs
  | .rst_18H => s.pushAddrs
  | .rst_20H => s.pushAddrs
  | .rst_28H => s.pushAddrs
  | .rst_30H => s.pushAddrs
  | .rst_38H => s.pushAddrs
  | .inc_indHL => [s.hl]
  | .dec_indHL => [s.hl]
  | .rlc_indHL => [s.hl]
  | .rrc_indHL => [s.hl]
  | .rl_indHL => [s.hl]
  | .rr_indHL => [s.hl]
  | .sla_indHL => [s.hl]
  | .sra_indHL => [s.hl]
  | .swap_indHL => [s.hl]
  | .srl_indHL => [s.hl]
  | .res_0_indHL => [s.hl]
  | .res_1_indHL => [s.hl]
  | .res_2_indHL => [s.hl]
  | .res_3_indHL => [s.hl]
  | .res_4_indHL => [s.hl]
  | .res_5_indHL => [s.hl]
  | .res_6_indHL => [s.hl]
  | .res_7_indHL => [s.hl]
  | .set_0_indHL => [s.hl]
  | .set_1_indHL => [s.hl]
  | .set_2_indHL => [s.hl]
  | .set_3_indHL => [s.hl]
  | .set_4_indHL => [s.hl]
  | .set_5_indHL => [s.hl]
  | .set_6_indHL => [s.hl]
  | .set_7_indHL => [s.hl]
  | .prefix_CB op2 => if fieldZ op2 = 6 ∧ fieldX op2 ≠ 1 then [s.hl] else []
  | _ => []

/-- The one data address that an instruction reads before anything else, if it is an instruction of that shape: a load, an
ALU operation, a read-modify-write or a bit test of a memory byte. The stack reads of `POP` and the returns are apart. -/
def Instr.readAddr (i : Instr) (s : State) : Option Word :=
  match i with
  | .ld_A_indBC => some s.bc
  | .ld_A_indDE => some s.de
  | .ld_A_ind_a16 a16 => some a16
  | .ldh_A_ind_a8 a8 => some (highPage a8)
  | .ld_A_indC => some (highPage s.regs.c)
  | .ld_A_indHLinc => some s.hl
  | .ld_A_indHLdec => some s.hl
  | .ld_B_indHL => some s.hl
  | .ld_C_indHL => some s.hl
  | .ld_D_indHL => some s.hl
  | .ld_E_indHL => some s.hl
  | .ld_H_indHL => some s.hl
  | .ld_L_indHL => some s.hl
  | .ld_A_indHL => some s.hl
  | .add_A_indHL => some s.hl
  | .adc_A_indHL => some s.hl
  | .sub_indHL => some s.hl
  | .sbc_A_indHL => some s.hl
  | .and_indHL => some s.hl
  | .xor_indHL => some s.hl
  | .or_indHL => some s.hl
  | .cp_indHL => some s.hl
  | .inc_indHL => some s.hl
  | .dec_indHL => some s.hl
  | .prefix_CB op2 => if fieldZ op2 = 6 then some s.hl else none
  | i =>
    match encode i with
    | [0xCB#8, op2] => if fieldZ op2 = 6 then some s.hl else none
    | _ => none

/-- The instruction writes some flag, read off its opcode bytes: the rows of 30_encoding.md R168 but the last. -/
def Instr.writesFlags (i : Instr) : Bool :=
  match encode i with
  | [] => false
  | [op] =>
    (fieldX op == 2) || (fieldX op == 0 && (fieldZ op == 4 || fieldZ op == 5 || fieldZ op == 7)) ||
      (fieldX op == 0 && fieldZ op == 1 && fieldY op % 2 == 1) || op == 0xF1#8
  | op :: op2 :: _ =>
    (op == 0xCB#8 && decide (fieldX op2 ≤ 1)) || (fieldX op == 3 && fieldZ op == 6) || op == 0xE8#8 || op == 0xF8#8

end Sys2Proof
end

