-- ==== Sys2Proof/Machine/HostOps.lean ====
section
/-! DEFINITION. The host's operations: loading a cartridge and a boot ROM, the lifecycle controls, and read-out (spec
70_reset_and_hazards.md R600-R612, 20_memory.md R120-R124). The host applies them between frames; `step` calls none of
them (log 12). -/
namespace Sys2Proof.Machine

/-! ## Images -/

/-- The image of a sequence of bytes. -/
def Image.ofBytes (bytes : List Byte) : Image where
  size := bytes.length
  cells := Memory.ofBytes 0 bytes

/-! ## The cartridge header (20_memory.md section 5) -/

/-- A variant named by a type byte, and whether that type has RAM, battery, timer, rumble (R121). -/
structure CartType where
  mbc : Mbc
  ram : Bool
  battery : Bool
  timer : Bool
  rumble : Bool
  deriving DecidableEq, Repr

/-- The type-byte table (R121); none where the table has no row. -/
def cartType (t : Nat) : Option CartType :=
  match t with
  | 0x00 => some ⟨.romOnly, false, false, false, false⟩
  | 0x01 => some ⟨.mbc1, false, false, false, false⟩
  | 0x02 => some ⟨.mbc1, true, false, false, false⟩
  | 0x03 => some ⟨.mbc1, true, true, false, false⟩
  | 0x0F => some ⟨.mbc3, false, true, true, false⟩
  | 0x10 => some ⟨.mbc3, true, true, true, false⟩
  | 0x11 => some ⟨.mbc3, false, false, false, false⟩
  | 0x12 => some ⟨.mbc3, true, false, false, false⟩
  | 0x13 => some ⟨.mbc3, true, true, false, false⟩
  | 0x19 => some ⟨.mbc5, false, false, false, false⟩
  | 0x1A => some ⟨.mbc5, true, false, false, false⟩
  | 0x1B => some ⟨.mbc5, true, true, false, false⟩
  | 0x1C => some ⟨.mbc5, false, false, false, true⟩
  | 0x1D => some ⟨.mbc5, true, false, false, true⟩
  | 0x1E => some ⟨.mbc5, true, true, false, true⟩
  | _ => none

/-- `ramBanks` from the RAM-size code (R122); none where the list has no entry. -/
def ramBanksOfCode (code : Nat) : Option Nat :=
  match code with
  | 0x00 => some 0
  | 0x01 => some 1
  | 0x02 => some 1
  | 0x03 => some 4
  | 0x04 => some 16
  | 0x05 => some 8
  | _ => none

/-- Why `loadCartridge` refuses an image (R123, 60_exceptions.md R505). -/
inductive LoadError where
  /-- `len(bytes) < 0x0150`: "malformed cartridge header". -/
  | tooShort (size : Nat)
  /-- The type byte is not in the table of R121. -/
  | unsupportedType (t : Byte)
  /-- The RAM-size code is not in the list of R122 (log 9). -/
  | unsupportedRamSize (code : Byte)
  deriving DecidableEq, Repr

/-- An `Mbc3` type byte selects `Mbc30` when the ROM exceeds 2 MiB or the RAM exceeds 4 banks (R121). -/
def selectVariant (m : Mbc) (romSize ramBanks : Nat) : Mbc :=
  match m with
  | .mbc3 => if romSize > 0x200000 ∨ ramBanks > 4 then .mbc30 else .mbc3
  | .romOnly => .romOnly
  | .mbc1 => .mbc1
  | .mbc5 => .mbc5
  | .mbc30 => .mbc30

/-- The cartridge of an image, or the reason it is refused (R120-R123). Where more than one cause of R123 holds, the reason is
the first of: the length, the type byte, the RAM-size code (DESIGN CHOICE, log 17); the code counts whatever the type (log 9). -/
def Cartridge.parse (img : Image) : Except LoadError Cartridge :=
  if img.size < 0x0150 then .error (.tooShort img.size)
  else
    match cartType (img.cells.read 0x0147).toNat, ramBanksOfCode (img.cells.read 0x0149).toNat with
    | none, _ => .error (.unsupportedType (img.cells.read 0x0147))
    | some _, none => .error (.unsupportedRamSize (img.cells.read 0x0149))
    | some t, some n =>
      let banks := if t.ram then n else 0
      .ok { rom := img, mbc := selectVariant t.mbc img.size banks, ramBanks := banks }

/-- The title: bytes 0x0134-0x0143 up to the first 0x00 (R120); ASCII codes. -/
def Image.title (img : Image) : List Byte :=
  ((List.range 16).map (fun i => img.cells.read (0x0134 + i))).takeWhile (fun v => decide (v ≠ 0x00#8))

/-- The header checksum of bytes 0x0134-0x014C (R124). -/
def Image.headerChecksum (img : Image) : Byte :=
  (List.range 25).foldl (fun x i => x - img.cells.read (0x0134 + i) - 1#8) 0x00#8

/-- Checksum validity, metadata only (R124). -/
def Image.checksumValid (img : Image) : Bool := decide (img.headerChecksum = img.cells.read 0x014D)

/-- The metadata "computed once at load time" (R120, R121): it has no effect on any rule. -/
structure Metadata where
  title : List Byte
  mbc : Mbc
  ramBanks : Nat
  type : Option CartType
  checksumValid : Bool
  deriving DecidableEq, Repr

/-- The metadata of a loaded cartridge. -/
def Cartridge.metadata (c : Cartridge) : Metadata where
  title := c.rom.title
  mbc := c.mbc
  ramBanks := c.ramBanks
  type := cartType (c.rom.cells.read 0x0147).toNat
  checksumValid := c.rom.checksumValid

/-- The bank controller's registers as construction, loading and `reset()` leave them (10_state.md R60). -/
def BankRegs.initial : BankRegs := { romBank := 1#9, ramBank := 0#4, ramEnable := false, mbc1Mode := false }

/-! ## Loading -/

/-- `loadCartridge(bytes)` (R602): on `LoadError` nothing changes. -/
def State.loadCartridge (s : State) (bytes : List Byte) : Except LoadError State :=
  match Cartridge.parse (Image.ofBytes bytes) with
  | .error e => .error e
  | .ok c => .ok { s with cart := c, bank := BankRegs.initial, mem := { s.mem with xram := [] } }

/-- `loadBootRom(bytes)` (R603); `colorMode` follows from the image's length (log 10). -/
def State.loadBootRom (s : State) (bytes : List Byte) : State :=
  { s with boot := some (Image.ofBytes bytes), bootActive := true }

/-! ## Lifecycle -/

/-- `start()`: with no boot ROM, the power-on defaults of 10_state.md R60, column `start-nb`; with one, nothing is
written (R604). -/
def State.start (s : State) : State :=
  match s.boot with
  | some _ => s
  | none =>
    { s with
      regs := { a := 0x01#8, b := 0x00#8, c := 0x13#8, d := 0x00#8, e := 0xD8#8, h := 0x01#8, l := 0x4D#8 }
      flags := { z := true, n := false, h := true, c := true }
      sp := 0xFFFE#16
      pc := 0x0100#16 }

/-- `pause()`: no machine state changes (R605). -/
def State.pause (s : State) : State := s

/-- `resume()`: no machine state changes (R605). -/
def State.resume (s : State) : State := s

/-- `stop()`: a final pause; no machine state changes (R606). -/
def State.hostStop (s : State) : State := s

/-- `reset()` (R607, 10_state.md R60, column `reset()`): "re-zeros the cycle clock and flag state but does not reallocate
memory arrays". -/
def State.hostReset (s : State) : State :=
  { s.store .io 0x44 0x00#8 with
    regs := { a := 0x00#8, b := 0x00#8, c := 0x00#8, d := 0x00#8, e := 0x00#8, h := 0x00#8, l := 0x00#8 }
    flags := { z := false, n := false, h := false, c := false }
    sp := 0x0000#16
    pc := 0x0000#16
    ime := false
    eiPending := false
    run := .running
    fault := none
    bootActive := s.boot.isSome
    bank := BankRegs.initial
    clkTotal := 0
    clkMode := 0
    ppuMode := .oam }

/-- `setJoypadLow(n)`, with the joypad request raised "at the same time" if the host asks for it (R611). -/
def State.setJoypadLow (s : State) (n : BitVec 4) (request : Bool) : State :=
  let t := s.store .io 0x00 ((s.io 0x00 &&& 0xF0#8) ||| n.setWidth 8)
  if request then t.store .io 0x0F (s.io 0x0F ||| 0x10#8) else t

/-! ## Read-out -/

/-- `getFrameBuffer()`: a copy of the bytes of `FB` (R609). -/
def State.getFrameBuffer (s : State) : List Byte := (List.range frameBufferSize).map (s.cell .fb)

/-- The number of a PPU mode (51_ppu.md R431). -/
def PpuMode.number : PpuMode → Nat
  | .hblank => 0
  | .vblank => 1
  | .oam => 2
  | .transfer => 3

/-- The number of cells of a writable array (10_state.md R29). -/
def ArrayName.size (ramBanks : Nat) : ArrayName → Nat
  | .vram => 0x4000
  | .wram => 0x8000
  | .oam => 0xA0
  | .io => 0x80
  | .wave => 0x10
  | .hram => 0x7F
  | .xram => ramBanks * 0x2000
  | .fb => frameBufferSize

/-- What the host can sample: every row of the table of 10_state.md R29, the two images and `IE` among them. -/
inductive SampleSource where
  | rom
  | boot
  | array (n : ArrayName)
  | ie
  deriving DecidableEq, Repr

/-- The number of cells of a source; none of a boot ROM that is absent, one of `IE`. -/
def State.sourceSize (s : State) : SampleSource → Nat
  | .rom => s.cart.rom.size
  | .boot => s.boot.elim 0 Image.size
  | .array n => n.size s.cart.ramBanks
  | .ie => 1

/-- The stored byte in cell `k` of a source, "taken directly, not through `BusRead`" (R610): no bank is applied, no overlay,
no read rule of an I/O register, and `IE` is its five bits with zeros above. -/
def State.sourceCell (s : State) (k : Nat) : SampleSource → Byte
  | .rom => s.cart.rom.cells.read k
  | .boot => s.boot.elim 0x00#8 (fun img => img.cells.read k)
  | .array n => s.cell n k
  | .ie => s.ie.setWidth 8

/-- A host-chosen range: its source, first cell and length (R610, log 13). -/
structure SampleRange where
  source : SampleSource
  first : Nat
  count : Nat
  deriving DecidableEq, Repr

/-- The copy of a range: its cells in rising order, as far as the source reaches (log 13). -/
def State.sample (s : State) (r : SampleRange) : List Byte :=
  (List.range (min r.count (s.sourceSize r.source - r.first))).map (fun i => s.sourceCell (r.first + i) r.source)

/-- The debug snapshot (R610). -/
structure DebugSnapshot where
  registers : Regs
  flags : Flags
  pc : Word
  sp : Word
  cycles : Nat
  ppuMode : Nat
  memoryRegionSamples : List (List Byte)
  deriving DecidableEq, Repr

/-- `getDebugSnapshot()`: a copy "taken directly, not through `BusRead`", so nothing changes (R610). -/
def State.getDebugSnapshot (s : State) (ranges : List SampleRange) : DebugSnapshot where
  registers := s.regs
  flags := s.flags
  pc := s.pc
  sp := s.sp
  cycles := s.clkTotal
  ppuMode := s.ppuMode.number
  memoryRegionSamples := ranges.map s.sample

end Sys2Proof.Machine
end

