-- ==== Sys2Proof/Safety.lean ====
section
/-! DEFINITION. What a good state is, in the terms the statements use: the machine invariant that every step keeps, and the
conditions under which parts of an instruction complete. -/
namespace Sys2Proof.Machine

/-- An array is in canonical form and lies within its size. -/
def Memory.good (size : Nat) (m : Memory) : Bool := m.wf && Memory.below size m

/-- An image is in canonical form and lies within its length. -/
def Image.good (img : Image) : Bool := Memory.good img.size img.cells

/-- Every writable array is in canonical form and within the size of 10_state.md R29. -/
structure Arrays.Good (m : Arrays) (ramBanks : Nat) : Prop where
  vram : Memory.good 0x4000 m.vram = true
  wram : Memory.good 0x8000 m.wram = true
  oam : Memory.good 0xA0 m.oam = true
  io : Memory.good 0x80 m.io = true
  wave : Memory.good 0x10 m.wave = true
  hram : Memory.good 0x7F m.hram = true
  xram : Memory.good (ramBanks * 0x2000) m.xram = true
  fb : Memory.good frameBufferSize m.fb = true

/-- What the bank-controller registers of a variant can hold (20_memory.md R108-R114). -/
def BankRegs.legal (b : BankRegs) : Mbc → Bool
  | .romOnly => decide (b = BankRegs.initial)
  | .mbc1 => decide (1 ≤ b.romBank.toNat ∧ b.romBank.toNat ≤ 0x1F ∧ b.ramBank.toNat ≤ 3)
  | .mbc3 => decide (1 ≤ b.romBank.toNat ∧ b.romBank.toNat ≤ 0x7F ∧ b.mbc1Mode = false)
  | .mbc30 => decide (1 ≤ b.romBank.toNat ∧ b.romBank.toNat ≤ 0xFF ∧ b.mbc1Mode = false)
  | .mbc5 => decide (b.mbc1Mode = false)

/-- The most one `CpuTick` adds to `clk.total`: 4 + 20 + 24 (50_clock_scheduler.md R406). -/
def maxTickCycles : Nat := 48

/-- The machine invariant: canonical arrays within their sizes, canonical images, legal bank-controller registers, and both
counters within a frame and one tick (R406). -/
structure State.Inv (s : State) : Prop where
  arrays : s.mem.Good s.cart.ramBanks
  rom : s.cart.rom.good = true
  boot : ∀ img, s.boot = some img → img.good = true
  bank : s.bank.legal s.cart.mbc = true
  total : s.clkTotal ≤ frameCycles + maxTickCycles
  mode : s.clkMode ≤ frameCycles + maxTickCycles

/-- The frame loop runs the CPU from this state: it is not faulted, not stopped and within the frame budget (R403). -/
structure State.Ticks (s : State) : Prop where
  noFault : s.fault = none
  notStopped : s.run ≠ .stopped
  inFrame : s.clkTotal ≤ frameCycles

/-- The interrupt check of this tick does nothing and the CPU is running: the next thing that happens is a fetch
(60_exceptions.md R510, 30_encoding.md R150). -/
structure State.AboutToFetch (s : State) : Prop extends s.Ticks where
  running : s.run = .running
  noDispatch : s.pending = 0#5 ∨ s.ime = false

/-- The boot overlay will not be switched off by a read of `a` (20_memory.md R74). -/
def State.readIsPure (s : State) (a : Word) : Bool := decide (a ≠ 0x0100#16) || !s.bootActive

end Sys2Proof.Machine
end

