-- ==== Sys2Proof/Certificates/Slice0/Obligations.lean ====
section
/-! DEFINITION. The statements for the provers, each from a numbered rule of spec/ unless its docstring says otherwise. The
family functions of Sys2Proof/Decode.lean (`Instr.ld`, `Instr.alu`, ...) name the constructors a statement is about: a
statement over all their arguments holds for every constructor they give. Where a result is written as an update of the
state before, every field that the update does not name is unchanged: that is the statement's frame. A statement about an
instruction also says its encoding, with the fields of 30_encoding.md R154 (`opByte x y z`) and the operand codes of
R155-R160 (`code`), and what it does where a read of memory returns no byte ("Exceptions: bus only"). A raise is a next
state with the fault recorded (R501, log 5), and a step is one iteration of the frame loop (R403, log 4). -/

open Sys2Proof Sys2Proof.Machine

/-! ## Encoding -/

/-- Words written out bit by bit from the field rules (30_encoding.md R154-R165), one at least for every family, decode to
the instruction they stand for. -/
def Obligations.SpecWordsDecode : Prop :=
  decode [0b01000001#8] = .ok (.ld_B_C, []) ∧
  decode [0b00111110#8, 0x42#8] = .ok (.ld_A_d8 0x42#8, []) ∧
  decode [0b01110110#8] = .ok (.halt, []) ∧
  decode [0b00100001#8, 0x34#8, 0x12#8] = .ok (.ld_HL_d16 0x1234#16, []) ∧
  decode [0b11110101#8] = .ok (.push_AF, []) ∧
  decode [0b10011110#8] = .ok (.sbc_A_indHL, []) ∧
  decode [0b11111110#8, 0x3C#8] = .ok (.cp_d8 0x3C#8, []) ∧
  decode [0b00111001#8] = .ok (.add_HL_SP, []) ∧
  decode [0b00011111#8] = .ok (.rra, []) ∧
  decode [0b11001011#8, 0b00110111#8] = .ok (.swap_A, []) ∧
  decode [0b11001011#8, 0b01100101#8] = .ok (.bit_4_L, []) ∧
  decode [0b11001011#8, 0b10011110#8] = .ok (.res_3_indHL, []) ∧
  decode [0b00111000#8, 0xFC#8] = .ok (.jr_C_e8 0xFC#8, []) ∧
  decode [0b11010100#8, 0x00#8, 0x20#8] = .ok (.call_NC_a16 0x2000#16, []) ∧
  decode [0b11001111#8] = .ok (.rst_08H, []) ∧
  decode [0b11011001#8] = .ok (.reti, []) ∧
  decode [0b00010000#8, 0x00#8] = .ok (.stop 0x00#8, []) ∧
  decode [0b11011101#8] = .ok (.unassigned_DD, [])

/-- Decoding the bytes of any well-formed instruction gives it back, with every operand at every value, whatever bytes
follow: the field rules (R152-R165) and the grid (R166) agree. -/
def Obligations.DecodeEncodeRoundTrip : Prop :=
  ∀ (i : Instr) (rest : List Byte), i.wellFormed = true → decode (encode i ++ rest) = .ok (i, rest)

/-- The other direction: what the decoder takes for an instruction is a well-formed one, and the bytes it took are that
instruction's encoding, so no two byte sequences share a meaning. -/
def Obligations.DecodedBytesAreTheEncoding : Prop :=
  ∀ (bytes : List Byte) (i : Instr) (rest : List Byte), decode bytes = .ok (i, rest) →
    i.wellFormed = true ∧ bytes = encode i ++ rest

/-- R152: the length is a function of byte 0 alone, the four formats with their opcode values. A list that is long enough
always decodes, and what is left is the list without that many bytes. -/
def Obligations.LengthIsAFunctionOfByte0 : Prop :=
  ∀ (op : Byte) (tail : List Byte),
    let len :=
      if op.toNat ∈ [0x01, 0x11, 0x21, 0x31, 0x08, 0xC2, 0xC3, 0xC4, 0xCA, 0xCC, 0xCD, 0xD2, 0xD4, 0xDA, 0xDC, 0xEA,
        0xFA] then 3
      else if op.toNat ∈ [0x06, 0x0E, 0x16, 0x1E, 0x26, 0x2E, 0x36, 0x3E, 0x10, 0x18, 0x20, 0x28, 0x30, 0x38, 0xC6,
        0xCE, 0xD6, 0xDE, 0xE6, 0xEE, 0xF6, 0xFE, 0xE0, 0xF0, 0xE8, 0xF8] then 2
      else if op.toNat = 0xCB then 2
      else 1
    len ≤ (op :: tail).length →
      ∃ i, decode (op :: tail) = .ok (i, (op :: tail).drop len) ∧ i.length = len

/-! ## Registers -/

/-- R21 and R24. A pair is its two halves, high byte first; a write to a pair writes the high byte to the first register
and the low byte to the second, and nothing else; a write to `AF` writes `A` and the four flags and loses the low nibble.
The layout of the flag byte, its low nibble always zero, what writing it keeps, and its power-on value, the one that
`start()` without a boot ROM leaves whatever the parameters (R60, column `start-nb`). -/
def Obligations.PairsAndFlagByte : Prop :=
  (∀ (s : State) (v : Word),
    s.bc.toNat = s.regs.b.toNat * 0x100 + s.regs.c.toNat ∧
    s.de.toNat = s.regs.d.toNat * 0x100 + s.regs.e.toNat ∧
    s.hl.toNat = s.regs.h.toNat * 0x100 + s.regs.l.toNat ∧
    s.af.toNat = s.regs.a.toNat * 0x100 + s.flags.pack.toNat ∧
    (s.setBC v = { s with regs := { s.regs with b := hiByte v, c := loByte v } } ∧ (s.setBC v).bc = v) ∧
    (s.setDE v = { s with regs := { s.regs with d := hiByte v, e := loByte v } } ∧ (s.setDE v).de = v) ∧
    (s.setHL v = { s with regs := { s.regs with h := hiByte v, l := loByte v } } ∧ (s.setHL v).hl = v) ∧
    (s.setAF v = { s with
        regs := { s.regs with a := hiByte v }
        flags := { z := v.getLsbD 7, n := v.getLsbD 6, h := v.getLsbD 5, c := v.getLsbD 4 } } ∧
      (s.setAF v).af = v &&& 0xFFF0#16) ∧
    ((hiByte v).toNat = v.toNat / 0x100 ∧ (loByte v).toNat = v.toNat % 0x100)) ∧
  (∀ f : Flags, f.pack.toNat = f.z.toNat * 0x80 + f.n.toNat * 0x40 + f.h.toNat * 0x20 + f.c.toNat * 0x10) ∧
  (∀ f : Flags, f.pack &&& 0x0F#8 = 0#8 ∧ Flags.unpack f.pack = f) ∧
  (∀ v : Byte, (Flags.unpack v).z = v.getLsbD 7 ∧ (Flags.unpack v).n = v.getLsbD 6 ∧
    (Flags.unpack v).h = v.getLsbD 5 ∧ (Flags.unpack v).c = v.getLsbD 4 ∧ (Flags.unpack v).pack = v &&& 0xF0#8) ∧
  (∀ cfg : Config, (State.construct cfg).start.flags.pack = 0xB0#8)

/-! ## 8-bit loads -/

/-- R200, R201: `LD r,r'` (the 49 constructors `ld_r_r'`) and `LD r,d8` (the seven `ld_r_d8`) complete in every state, and
change one register, `pc` and the clock. -/
def Obligations.LoadsToARegister : Prop :=
  ∀ (dst src : Reg8) (d8 : Byte) (s : State),
    encode (Instr.ld (.reg dst) (.reg src)) = [opByte 1 dst.code src.code] ∧
    encode (Instr.ldImm (.reg dst) d8) = [opByte 0 dst.code 6, d8] ∧
    exec (Instr.ld (.reg dst) (.reg src)) s =
      .next { s with regs := s.regs.set dst (s.regs.get src), pc := s.pc + 1, clkTotal := s.clkTotal + 4 } ∧
    exec (Instr.ldImm (.reg dst) d8) s =
      .next { s with regs := s.regs.set dst d8, pc := s.pc + 2, clkTotal := s.clkTotal + 8 }

/-- R202, R205, R206, R209, R211, R213: the loads from memory (the seven `ld_r_indHL`, `ld_A_indBC`, `ld_A_indDE`,
`ld_A_ind_a16`, `ldh_A_ind_a8`, `ld_A_indC`) complete wherever the bus returns a byte, which it does for every address in
the high page; the address is read before the register is written, and only a read of 0x0100 does more than read (R74). -/
def Obligations.LoadsFromMemory : Prop :=
  ∀ (r : Reg8) (a8 : Byte) (a16 : Word) (v : Byte) (s : State),
    let faulted (a : Word) : State := { s.afterRead a with fault := some (.addressError a.toNat) }
    encode (Instr.ld (.reg r) .indHL) = [opByte 1 r.code 6] ∧ encode .ld_A_indBC = [0x0A#8] ∧
    encode .ld_A_indDE = [0x1A#8] ∧ encode (.ld_A_ind_a16 a16) = [0xFA#8, loByte a16, hiByte a16] ∧
    encode (.ldh_A_ind_a8 a8) = [0xF0#8, a8] ∧ encode .ld_A_indC = [0xF2#8] ∧
    (s.peek s.hl = some v → exec (Instr.ld (.reg r) .indHL) s =
      .next { s.afterRead s.hl with regs := s.regs.set r v, pc := s.pc + 1, clkTotal := s.clkTotal + 8 }) ∧
    (s.peek s.bc = some v → exec .ld_A_indBC s =
      .next { s.afterRead s.bc with regs := { s.regs with a := v }, pc := s.pc + 1, clkTotal := s.clkTotal + 8 }) ∧
    (s.peek s.de = some v → exec .ld_A_indDE s =
      .next { s.afterRead s.de with regs := { s.regs with a := v }, pc := s.pc + 1, clkTotal := s.clkTotal + 8 }) ∧
    (s.peek a16 = some v → exec (.ld_A_ind_a16 a16) s =
      .next { s.afterRead a16 with regs := { s.regs with a := v }, pc := s.pc + 3, clkTotal := s.clkTotal + 16 }) ∧
    (s.peek s.hl = none → exec (Instr.ld (.reg r) .indHL) s = .next (faulted s.hl)) ∧
    (s.peek s.bc = none → exec .ld_A_indBC s = .next (faulted s.bc)) ∧
    (s.peek s.de = none → exec .ld_A_indDE s = .next (faulted s.de)) ∧
    (s.peek a16 = none → exec (.ld_A_ind_a16 a16) s = .next (faulted a16)) ∧
    (s.peek (0xFF00#16 + a8.setWidth 16)).isSome = true ∧ (s.peek (0xFF00#16 + s.regs.c.setWidth 16)).isSome = true ∧
    (s.peek (0xFF00#16 + a8.setWidth 16) = some v → exec (.ldh_A_ind_a8 a8) s =
      .next { s with regs := { s.regs with a := v }, pc := s.pc + 2, clkTotal := s.clkTotal + 12 }) ∧
    (s.peek (0xFF00#16 + s.regs.c.setWidth 16) = some v → exec .ld_A_indC s =
      .next { s with regs := { s.regs with a := v }, pc := s.pc + 1, clkTotal := s.clkTotal + 8 })

/-- R203, R204, R207, R208, R210, R212, R214: the stores (the seven `ld_indHL_r`, `ld_indHL_d8`, `ld_indBC_A`,
`ld_indDE_A`, `ld_ind_a16_A`, `ldh_ind_a8_A`, `ld_indC_A`) complete in every state: one bus write, `pc` and the clock. -/
def Obligations.StoresToMemory : Prop :=
  ∀ (r : Reg8) (d8 a8 : Byte) (a16 : Word) (s : State),
    encode (Instr.ld .indHL (.reg r)) = [opByte 1 6 r.code] ∧ encode (Instr.ldImm .indHL d8) = [0x36#8, d8] ∧
    encode .ld_indBC_A = [0x02#8] ∧ encode .ld_indDE_A = [0x12#8] ∧
    encode (.ld_ind_a16_A a16) = [0xEA#8, loByte a16, hiByte a16] ∧ encode (.ldh_ind_a8_A a8) = [0xE0#8, a8] ∧
    encode .ld_indC_A = [0xE2#8] ∧
    exec (Instr.ld .indHL (.reg r)) s =
      .next { s.busWrite s.hl (s.regs.get r) with pc := s.pc + 1, clkTotal := s.clkTotal + 8 } ∧
    exec (Instr.ldImm .indHL d8) s =
      .next { s.busWrite s.hl d8 with pc := s.pc + 2, clkTotal := s.clkTotal + 12 } ∧
    exec .ld_indBC_A s =
      .next { s.busWrite s.bc s.regs.a with pc := s.pc + 1, clkTotal := s.clkTotal + 8 } ∧
    exec .ld_indDE_A s =
      .next { s.busWrite s.de s.regs.a with pc := s.pc + 1, clkTotal := s.clkTotal + 8 } ∧
    exec (.ld_ind_a16_A a16) s =
      .next { s.busWrite a16 s.regs.a with pc := s.pc + 3, clkTotal := s.clkTotal + 16 } ∧
    exec (.ldh_ind_a8_A a8) s =
      .next { s.busWrite (0xFF00#16 + a8.setWidth 16) s.regs.a with pc := s.pc + 2, clkTotal := s.clkTotal + 12 } ∧
    exec .ld_indC_A s =
      .next { s.busWrite (0xFF00#16 + s.regs.c.setWidth 16) s.regs.a with
        pc := s.pc + 1, clkTotal := s.clkTotal + 8 }

/-- R215-R218: the loads and stores through `HL` that step it afterwards (`ld_indHLinc_A`, `ld_indHLdec_A`,
`ld_A_indHLinc`, `ld_A_indHLdec`): the access is at the old pointer, and the pointer wraps at 0x10000. -/
def Obligations.LoadsAndStoresThatStepHL : Prop :=
  ∀ (v : Byte) (s : State),
    let up := BitVec.ofNat 16 ((s.hl.toNat + 1) % 0x10000)
    let down := BitVec.ofNat 16 ((s.hl.toNat + 0xFFFF) % 0x10000)
    encode .ld_indHLinc_A = [0x22#8] ∧ encode .ld_A_indHLinc = [0x2A#8] ∧
    encode .ld_indHLdec_A = [0x32#8] ∧ encode .ld_A_indHLdec = [0x3A#8] ∧
    (s.peek s.hl = none →
      exec .ld_A_indHLinc s = .next { s.afterRead s.hl with fault := some (.addressError s.hl.toNat) } ∧
      exec .ld_A_indHLdec s = .next { s.afterRead s.hl with fault := some (.addressError s.hl.toNat) }) ∧
    exec .ld_indHLinc_A s =
      .next { s.busWrite s.hl s.regs.a with
        regs := { s.regs with h := hiByte up, l := loByte up }, pc := s.pc + 1, clkTotal := s.clkTotal + 8 } ∧
    exec .ld_indHLdec_A s =
      .next { s.busWrite s.hl s.regs.a with
        regs := { s.regs with h := hiByte down, l := loByte down }, pc := s.pc + 1, clkTotal := s.clkTotal + 8 } ∧
    (s.peek s.hl = some v → exec .ld_A_indHLinc s =
      .next { s.afterRead s.hl with
        regs := { s.regs with a := v, h := hiByte up, l := loByte up }, pc := s.pc + 1, clkTotal := s.clkTotal + 8 }) ∧
    (s.peek s.hl = some v → exec .ld_A_indHLdec s =
      .next { s.afterRead s.hl with
        regs := { s.regs with a := v, h := hiByte down, l := loByte down }, pc := s.pc + 1, clkTotal := s.clkTotal + 8 })

/-- R115, R507 and R502: where the bus returns no byte (ROM space beyond the image), every instruction that reads a data
byte first (`Instr.readAddr`: the loads, the ALU operations, the read-modify-writes and the bit tests of a memory byte)
records `AddressError` of that address and changes nothing else, but for the overlay switch-off of a read of 0x0100. -/
def Obligations.ReadBeyondTheRomImageFaults : Prop :=
  (∀ (i : Instr) (s : State) (a : Word), i.readAddr s = some a → s.peek a = none →
    exec i s = .next { s.afterRead a with fault := some (.addressError a.toNat) }) ∧
  (∀ (s : State) (a : Word), s.peek a = none ↔
    a.toNat ≤ 0x7FFF ∧ s.overlayByte a = none ∧
      s.cart.rom.size ≤ s.romOffset (if a.toNat ≤ 0x3FFF then s.rom00Bank else s.romNNBank) a)

/-! ## 16-bit loads and the stack -/

/-- R230, R232: `LD rr,d16` (`ld_BC_d16`, `ld_DE_d16`, `ld_HL_d16`, `ld_SP_d16`) and `LD SP,HL` complete in every state; any
value may be loaded into `sp`. -/
def Obligations.LoadsOfAPair : Prop :=
  ∀ (d16 : Word) (s : State),
    encode (.ld_BC_d16 d16) = [0x01#8, loByte d16, hiByte d16] ∧
    encode (.ld_DE_d16 d16) = [0x11#8, loByte d16, hiByte d16] ∧
    encode (.ld_HL_d16 d16) = [0x21#8, loByte d16, hiByte d16] ∧
    encode (.ld_SP_d16 d16) = [0x31#8, loByte d16, hiByte d16] ∧ encode .ld_SP_HL = [0xF9#8] ∧
    exec (.ld_BC_d16 d16) s = .next { s with
      regs := { s.regs with b := hiByte d16, c := loByte d16 }, pc := s.pc + 3, clkTotal := s.clkTotal + 12 } ∧
    exec (.ld_DE_d16 d16) s = .next { s with
      regs := { s.regs with d := hiByte d16, e := loByte d16 }, pc := s.pc + 3, clkTotal := s.clkTotal + 12 } ∧
    exec (.ld_HL_d16 d16) s = .next { s with
      regs := { s.regs with h := hiByte d16, l := loByte d16 }, pc := s.pc + 3, clkTotal := s.clkTotal + 12 } ∧
    exec (.ld_SP_d16 d16) s = .next { s with sp := d16, pc := s.pc + 3, clkTotal := s.clkTotal + 12 } ∧
    exec .ld_SP_HL s = .next { s with
      sp := wordOf s.regs.h s.regs.l, pc := s.pc + 1, clkTotal := s.clkTotal + 8 }

/-- R233, R303: `LD HL,SP+e8` and `ADD SP,e8` (`ld_HL_SPe8`, `add_SP_e8`): the signed offset is added modulo 0x10000, and
`H` and `C` are the carries out of bits 3 and 7 of the unsigned addition to the low byte; never a `StackError`. -/
def Obligations.StackPointerPlusOffset : Prop :=
  ∀ (e8 : Byte) (s : State),
    let res := BitVec.ofInt 16 ((s.sp.toNat : Int) + e8.toInt)
    let f : Flags :=
      { z := false
        n := false
        h := decide ((s.sp &&& 0x000F#16).toNat + (e8 &&& 0x0F#8).toNat > 0x0F)
        c := decide ((s.sp &&& 0x00FF#16).toNat + e8.toNat > 0xFF) }
    encode (.ld_HL_SPe8 e8) = [0xF8#8, e8] ∧ encode (.add_SP_e8 e8) = [0xE8#8, e8] ∧
    exec (.ld_HL_SPe8 e8) s = .next { s with
      regs := { s.regs with h := hiByte res, l := loByte res }
      flags := f
      pc := s.pc + 2
      clkTotal := s.clkTotal + 12 } ∧
    exec (.add_SP_e8 e8) s = .next { s with sp := res, flags := f, pc := s.pc + 2, clkTotal := s.clkTotal + 16 }

/-- R231: `LD (a16),SP` stores the low byte of `sp` at `a16` and the high byte above it; with `a16 = 0xFFFF` it records
`AddressError(0x10000)` and stores nothing. -/
def Obligations.StoreOfTheStackPointer : Prop :=
  ∀ (a16 : Word) (s : State),
    encode (.ld_ind_a16_SP a16) = [0x08#8, loByte a16, hiByte a16] ∧
    (a16 ≠ 0xFFFF#16 → exec (.ld_ind_a16_SP a16) s =
      .next { (s.busWrite a16 (loByte s.sp)).busWrite (a16 + 1) (hiByte s.sp) with
        pc := s.pc + 3, clkTotal := s.clkTotal + 20 }) ∧
    (a16 = 0xFFFF#16 → exec (.ld_ind_a16_SP a16) s = .next { s with fault := some (.addressError 0x10000) })

/-- R234, R235: `PUSH qq` (`push_BC`, `push_DE`, `push_HL`, `push_AF`): the high byte at `sp - 1`, then the low byte at
`sp - 2`; with `sp < 2` a `StackError` before anything is written. -/
def Obligations.PushStoresAPair : Prop :=
  ∀ (qq : StackPair) (s : State),
    let v := match qq with
      | .BC => wordOf s.regs.b s.regs.c
      | .DE => wordOf s.regs.d s.regs.e
      | .HL => wordOf s.regs.h s.regs.l
      | .AF => wordOf s.regs.a s.flags.pack
    encode (Instr.push qq) = [opByte 3 (2 * qq.code) 5] ∧
    (0x0002 ≤ s.sp.toNat → exec (Instr.push qq) s =
      .next { (s.busWrite (s.sp - 1) (hiByte v)).busWrite (s.sp - 2) (loByte v) with
        sp := s.sp - 2, pc := s.pc + 1, clkTotal := s.clkTotal + 16 }) ∧
    (s.sp.toNat < 0x0002 → exec (Instr.push qq) s = .next { s with fault := some (.stackError s.sp) })

/-- R236, R237: `POP qq` (`pop_BC`, `pop_DE`, `pop_HL`, `pop_AF`): the low byte from `[sp]`, the high byte from
`[sp + 1]`, all four flags from a popped `F`; with `sp > 0xFFFD` a `StackError` before anything is read; where a stack byte lies past the ROM image, `AddressError`. -/
def Obligations.PopLoadsAPair : Prop :=
  ∀ (lo hi : Byte) (s : State),
    let u := (s.afterRead s.sp).afterRead (s.sp + 1)
    (∀ qq, encode (Instr.pop qq) = [opByte 3 (2 * qq.code) 1]) ∧
    (s.sp.toNat ≤ 0xFFFD → s.peek s.sp = some lo → s.peek (s.sp + 1) = some hi →
      exec .pop_BC s = .next { u with
        regs := { s.regs with b := hi, c := lo }, sp := s.sp + 2, pc := s.pc + 1, clkTotal := s.clkTotal + 12 } ∧
      exec .pop_DE s = .next { u with
        regs := { s.regs with d := hi, e := lo }, sp := s.sp + 2, pc := s.pc + 1, clkTotal := s.clkTotal + 12 } ∧
      exec .pop_HL s = .next { u with
        regs := { s.regs with h := hi, l := lo }, sp := s.sp + 2, pc := s.pc + 1, clkTotal := s.clkTotal + 12 } ∧
      exec .pop_AF s = .next { u with
        regs := { s.regs with a := hi }
        flags := { z := lo.getLsbD 7, n := lo.getLsbD 6, h := lo.getLsbD 5, c := lo.getLsbD 4 }
        sp := s.sp + 2
        pc := s.pc + 1
        clkTotal := s.clkTotal + 12 }) ∧
    (∀ qq, 0xFFFD < s.sp.toNat → exec (Instr.pop qq) s = .next { s with fault := some (.stackError s.sp) }) ∧
    (∀ qq, s.sp.toNat ≤ 0xFFFD → s.peek s.sp = none →
      exec (Instr.pop qq) s = .next { s.afterRead s.sp with fault := some (.addressError s.sp.toNat) }) ∧
    (∀ qq, s.sp.toNat ≤ 0xFFFD → s.peek s.sp = some lo → s.peek (s.sp + 1) = none →
      exec (Instr.pop qq) s = .next { u with fault := some (.addressError (s.sp + 1).toNat) })

/-- R131, R236, R237: a push and the matching pop, wherever the two stack bytes are plain storage, restore `sp` exactly and
move the pushed pair whole into the popped one; popped into `AF` it loses the low nibble. The stack bytes may lie
anywhere in the address space, at a bank boundary too. -/
def Obligations.PushThenPopRestores : Prop :=
  ∀ (qq qq' : StackPair) (s : State), s.mem.Good s.cart.ramBanks → 0x0002 ≤ s.sp.toNat →
    s.storesPlainly (s.sp - 1) = true → s.storesPlainly (s.sp - 2) = true →
    ∃ t u, exec (Instr.push qq) s = .next t ∧ exec (Instr.pop qq') t = .next u ∧
      u.sp = s.sp ∧ u.fault = s.fault ∧
      u.stackPair qq' = (if qq' = .AF then s.stackPair qq &&& 0xFFF0#16 else s.stackPair qq) ∧
      (qq' = qq → u.regs = s.regs ∧ u.flags = s.flags)

/-! ## 8-bit arithmetic -/

/-- R254, R257, R260, R263, R266, R269, R272, R275: the eight ALU operations on `A` and a register (56 constructors)
complete in every state; `CP` discards the result. -/
def Obligations.AluOnRegister : Prop :=
  ∀ (op : AluOp) (r : Reg8) (s : State),
    let f : Byte × Flags := match op with
      | .add => add8 s.regs.a (s.regs.get r) false
      | .adc => add8 s.regs.a (s.regs.get r) s.flags.c
      | .sub => sub8 s.regs.a (s.regs.get r) false
      | .sbc => sub8 s.regs.a (s.regs.get r) s.flags.c
      | .and => and8 s.regs.a (s.regs.get r)
      | .xor => xor8 s.regs.a (s.regs.get r)
      | .or => or8 s.regs.a (s.regs.get r)
      | .cp => sub8 s.regs.a (s.regs.get r) false
    encode (Instr.alu op (.reg r)) = [opByte 2 op.code r.code] ∧
    exec (Instr.alu op (.reg r)) s = .next { s with
      regs := if op = .cp then s.regs else { s.regs with a := f.1 }
      flags := f.2
      pc := s.pc + 1
      clkTotal := s.clkTotal + 4 }

/-- R256, R259, R262, R265, R268, R271, R274, R277: the same on `A` and an immediate byte (the constructors `*_d8`). -/
def Obligations.AluOnImmediate : Prop :=
  ∀ (op : AluOp) (d8 : Byte) (s : State),
    let f : Byte × Flags := match op with
      | .add => add8 s.regs.a d8 false
      | .adc => add8 s.regs.a d8 s.flags.c
      | .sub => sub8 s.regs.a d8 false
      | .sbc => sub8 s.regs.a d8 s.flags.c
      | .and => and8 s.regs.a d8
      | .xor => xor8 s.regs.a d8
      | .or => or8 s.regs.a d8
      | .cp => sub8 s.regs.a d8 false
    encode (Instr.aluImm op d8) = [opByte 3 op.code 6, d8] ∧
    exec (Instr.aluImm op d8) s = .next { s with
      regs := if op = .cp then s.regs else { s.regs with a := f.1 }
      flags := f.2
      pc := s.pc + 2
      clkTotal := s.clkTotal + 8 }

/-- R255, R258, R261, R264, R267, R270, R273, R276: the same on `A` and the byte at `x[HL]` (the constructors `*_indHL` of
the family): they complete wherever the bus returns a byte. -/
def Obligations.AluOnMemory : Prop :=
  ∀ (op : AluOp) (v : Byte) (s : State),
    let f : Byte × Flags := match op with
      | .add => add8 s.regs.a v false
      | .adc => add8 s.regs.a v s.flags.c
      | .sub => sub8 s.regs.a v false
      | .sbc => sub8 s.regs.a v s.flags.c
      | .and => and8 s.regs.a v
      | .xor => xor8 s.regs.a v
      | .or => or8 s.regs.a v
      | .cp => sub8 s.regs.a v false
    encode (Instr.alu op .indHL) = [opByte 2 op.code 6] ∧
    (s.peek s.hl = none → exec (Instr.alu op .indHL) s =
      .next { s.afterRead s.hl with fault := some (.addressError s.hl.toNat) }) ∧
    (s.peek s.hl = some v → exec (Instr.alu op .indHL) s = .next { s.afterRead s.hl with
      regs := if op = .cp then s.regs else { s.regs with a := f.1 }
      flags := f.2
      pc := s.pc + 1
      clkTotal := s.clkTotal + 8 })

/-- R250, R251, R252: the ALU functions, those that add and subtract as integer arithmetic. -/
def Obligations.AluFunctions : Prop :=
  ∀ (a b : Byte) (cin : Bool),
    ((add8 a b cin).1.toNat = (a.toNat + b.toNat + cin.toNat) % 0x100 ∧
      (add8 a b cin).2 =
        { z := decide ((a.toNat + b.toNat + cin.toNat) % 0x100 = 0)
          n := false
          h := decide ((a &&& 0x0F#8).toNat + (b &&& 0x0F#8).toNat + cin.toNat > 0x0F)
          c := decide (a.toNat + b.toNat + cin.toNat > 0xFF) }) ∧
    (((sub8 a b cin).1.toNat : Int) = ((a.toNat : Int) - b.toNat - cin.toNat) % 0x100 ∧
      (sub8 a b cin).2 =
        { z := decide (((a.toNat : Int) - b.toNat - cin.toNat) % 0x100 = 0)
          n := true
          h := decide ((a &&& 0x0F#8).toNat < (b &&& 0x0F#8).toNat + cin.toNat)
          c := decide (a.toNat < b.toNat + cin.toNat) }) ∧
    and8 a b = (a &&& b, { z := decide (a &&& b = 0#8), n := false, h := true, c := false }) ∧
    xor8 a b = (a ^^^ b, { z := decide (a ^^^ b = 0#8), n := false, h := false, c := false }) ∧
    or8 a b = (a ||| b, { z := decide (a ||| b = 0#8), n := false, h := false, c := false })

/-- R278-R281: `INC` and `DEC` of a register (the 14 constructors `inc_r`, `dec_r`) complete in every state; those of the
byte at `x[HL]` (`inc_indHL`, `dec_indHL`) wherever the bus returns one: one read, one write of the same address. `C` is
unchanged. -/
def Obligations.IncrementAndDecrement : Prop :=
  ∀ (r : Reg8) (v : Byte) (s : State),
    let fInc (x : Byte) : Flags :=
      { z := decide (x = 0xFF#8), n := false, h := decide (x &&& 0x0F#8 = 0x0F#8), c := s.flags.c }
    let fDec (x : Byte) : Flags :=
      { z := decide (x = 0x01#8), n := true, h := decide (x &&& 0x0F#8 = 0x00#8), c := s.flags.c }
    encode (Instr.inc (.reg r)) = [opByte 0 r.code 4] ∧ encode (Instr.dec (.reg r)) = [opByte 0 r.code 5] ∧
    encode .inc_indHL = [0x34#8] ∧ encode .dec_indHL = [0x35#8] ∧
    (s.peek s.hl = none →
      exec .inc_indHL s = .next { s.afterRead s.hl with fault := some (.addressError s.hl.toNat) } ∧
      exec .dec_indHL s = .next { s.afterRead s.hl with fault := some (.addressError s.hl.toNat) }) ∧
    exec (Instr.inc (.reg r)) s = .next { s with
      regs := s.regs.set r (BitVec.ofNat 8 (((s.regs.get r).toNat + 1) % 0x100))
      flags := fInc (s.regs.get r)
      pc := s.pc + 1
      clkTotal := s.clkTotal + 4 } ∧
    exec (Instr.dec (.reg r)) s = .next { s with
      regs := s.regs.set r (BitVec.ofNat 8 (((s.regs.get r).toNat + 0xFF) % 0x100))
      flags := fDec (s.regs.get r)
      pc := s.pc + 1
      clkTotal := s.clkTotal + 4 } ∧
    (s.peek s.hl = some v → exec .inc_indHL s =
      .next { (s.afterRead s.hl).busWrite s.hl (BitVec.ofNat 8 ((v.toNat + 1) % 0x100)) with
        flags := fInc v, pc := s.pc + 1, clkTotal := s.clkTotal + 12 }) ∧
    (s.peek s.hl = some v → exec .dec_indHL s =
      .next { (s.afterRead s.hl).busWrite s.hl (BitVec.ofNat 8 ((v.toNat + 0xFF) % 0x100)) with
        flags := fDec v, pc := s.pc + 1, clkTotal := s.clkTotal + 12 })

/-- R282-R285: `DAA`, `CPL`, `SCF`, `CCF` complete in every state. Both tests of `DAA`'s addition branch use the original `A`;
after a subtraction the value is only ever reduced and `C` only ever kept. `CPL` does not touch `Z` even when the result
is zero. -/
def Obligations.AdjustAndComplement : Prop :=
  ∀ (s : State),
    let a := s.regs.a
    let low : Bool := s.flags.h || (!s.flags.n && decide ((a &&& 0x0F#8).toNat > 0x09))
    let high : Bool := s.flags.c || (!s.flags.n && decide (a.toNat > 0x99))
    let adj : Byte := (if low then 0x06#8 else 0x00#8) + (if high then 0x60#8 else 0x00#8)
    let res : Byte := if s.flags.n then a - adj else a + adj
    encode .daa = [0x27#8] ∧ encode .cpl = [0x2F#8] ∧ encode .scf = [0x37#8] ∧ encode .ccf = [0x3F#8] ∧
    exec .daa s = .next { s with
      regs := { s.regs with a := res }
      flags := { z := decide (res = 0x00#8), n := s.flags.n, h := false, c := high }
      pc := s.pc + 1
      clkTotal := s.clkTotal + 4 } ∧
    exec .cpl s = .next { s with
      regs := { s.regs with a := a ^^^ 0xFF#8 }
      flags := { z := s.flags.z, n := true, h := true, c := s.flags.c }
      pc := s.pc + 1
      clkTotal := s.clkTotal + 4 } ∧
    exec .scf s = .next { s with
      flags := { z := s.flags.z, n := false, h := false, c := true }, pc := s.pc + 1, clkTotal := s.clkTotal + 4 } ∧
    exec .ccf s = .next { s with
      flags := { z := s.flags.z, n := false, h := false, c := !s.flags.c }, pc := s.pc + 1, clkTotal := s.clkTotal + 4 }

/-- What `DAA` is for (R282's opening words): after an addition or a subtraction of two packed decimal bytes it leaves the
packed decimal sum or difference, and the decimal carry or borrow in `C`. -/
def Obligations.DecimalAdjustCorrectsPackedDecimal : Prop :=
  ∀ (x y : Nat) (cin : Bool), x < 100 → y < 100 →
    let bcd (n : Nat) : Byte := BitVec.ofNat 8 (n / 10 * 0x10 + n % 10)
    let sum := x + y + cin.toNat
    let diff := x + 200 - y - cin.toNat
    daa8 (add8 (bcd x) (bcd y) cin).1 (add8 (bcd x) (bcd y) cin).2 =
      (bcd (sum % 100), { z := decide (sum % 100 = 0), n := false, h := false, c := decide (sum ≥ 100) }) ∧
    daa8 (sub8 (bcd x) (bcd y) cin).1 (sub8 (bcd x) (bcd y) cin).2 =
      (bcd (diff % 100), { z := decide (diff % 100 = 0), n := true, h := false, c := decide (x < y + cin.toNat) })

/-! ## 16-bit arithmetic -/

/-- R300: `ADD HL,rr` (`add_HL_BC`, `add_HL_DE`, `add_HL_HL`, `add_HL_SP`): carries out of bits 11 and 15, `Z` unchanged. -/
def Obligations.AddToHL : Prop :=
  ∀ (s : State),
    let result (b : Word) : State :=
      let sum := BitVec.ofNat 16 ((s.hl.toNat + b.toNat) % 0x10000)
      { s with
        regs := { s.regs with h := hiByte sum, l := loByte sum }
        flags :=
          { z := s.flags.z
            n := false
            h := decide ((s.hl &&& 0x0FFF#16).toNat + (b &&& 0x0FFF#16).toNat > 0x0FFF)
            c := decide (s.hl.toNat + b.toNat > 0xFFFF) }
        pc := s.pc + 1
        clkTotal := s.clkTotal + 8 }
    encode .add_HL_BC = [0x09#8] ∧ encode .add_HL_DE = [0x19#8] ∧ encode .add_HL_HL = [0x29#8] ∧
    encode .add_HL_SP = [0x39#8] ∧
    exec .add_HL_BC s = .next (result s.bc) ∧ exec .add_HL_DE s = .next (result s.de) ∧
    exec .add_HL_HL s = .next (result s.hl) ∧ exec .add_HL_SP s = .next (result s.sp)

/-- R301, R302: `INC rr`, `DEC rr` (`inc_BC`, ..., `dec_SP`, eight constructors) wrap at 0x10000 silently, for `sp` too, and
write no flag. -/
def Obligations.IncrementAndDecrementOfAPair : Prop :=
  ∀ (s : State),
    let up (v : Word) : Word := BitVec.ofNat 16 ((v.toNat + 1) % 0x10000)
    let down (v : Word) : Word := BitVec.ofNat 16 ((v.toNat + 0xFFFF) % 0x10000)
    encode .inc_BC = [0x03#8] ∧ encode .inc_DE = [0x13#8] ∧ encode .inc_HL = [0x23#8] ∧ encode .inc_SP = [0x33#8] ∧
    encode .dec_BC = [0x0B#8] ∧ encode .dec_DE = [0x1B#8] ∧ encode .dec_HL = [0x2B#8] ∧ encode .dec_SP = [0x3B#8] ∧
    exec .inc_BC s = .next { s with
      regs := { s.regs with b := hiByte (up s.bc), c := loByte (up s.bc) }, pc := s.pc + 1, clkTotal := s.clkTotal + 8 } ∧
    exec .inc_DE s = .next { s with
      regs := { s.regs with d := hiByte (up s.de), e := loByte (up s.de) }, pc := s.pc + 1, clkTotal := s.clkTotal + 8 } ∧
    exec .inc_HL s = .next { s with
      regs := { s.regs with h := hiByte (up s.hl), l := loByte (up s.hl) }, pc := s.pc + 1, clkTotal := s.clkTotal + 8 } ∧
    exec .inc_SP s = .next { s with sp := up s.sp, pc := s.pc + 1, clkTotal := s.clkTotal + 8 } ∧
    exec .dec_BC s = .next { s with
      regs := { s.regs with b := hiByte (down s.bc), c := loByte (down s.bc) }
      pc := s.pc + 1
      clkTotal := s.clkTotal + 8 } ∧
    exec .dec_DE s = .next { s with
      regs := { s.regs with d := hiByte (down s.de), e := loByte (down s.de) }
      pc := s.pc + 1
      clkTotal := s.clkTotal + 8 } ∧
    exec .dec_HL s = .next { s with
      regs := { s.regs with h := hiByte (down s.hl), l := loByte (down s.hl) }
      pc := s.pc + 1
      clkTotal := s.clkTotal + 8 } ∧
    exec .dec_SP s = .next { s with sp := down s.sp, pc := s.pc + 1, clkTotal := s.clkTotal + 8 }

/-! ## Rotates, shifts, bits -/

/-- R310-R313: `RLCA`, `RRCA`, `RLA`, `RRA`: the rotation written as a concatenation, the bit that leaves goes to `C`, and
`Z` is cleared even when the result is zero. -/
def Obligations.AccumulatorRotates : Prop :=
  ∀ (s : State),
    let result (res : Byte) (cout : Bool) : State :=
      { s with
        regs := { s.regs with a := res }
        flags := { z := false, n := false, h := false, c := cout }
        pc := s.pc + 1
        clkTotal := s.clkTotal + 4 }
    encode .rlca = [0x07#8] ∧ encode .rrca = [0x0F#8] ∧ encode .rla = [0x17#8] ∧ encode .rra = [0x1F#8] ∧
    exec .rlca s = .next (result (s.regs.a.rotateLeft 1) (s.regs.a.getLsbD 7)) ∧
    exec .rrca s = .next (result (s.regs.a.rotateRight 1) (s.regs.a.getLsbD 0)) ∧
    exec .rla s = .next (result (s.regs.a.extractLsb' 0 7 ++ BitVec.ofBool s.flags.c) (s.regs.a.getLsbD 7)) ∧
    exec .rra s = .next (result (BitVec.ofBool s.flags.c ++ s.regs.a.extractLsb' 1 7) (s.regs.a.getLsbD 0))

/-- R314: the shifter functions of the `CB` table, written as rotations and concatenations. -/
def Obligations.ShifterFunctions : Prop :=
  ∀ (v : Byte) (cin : Bool),
    shift8 .rlc v cin = (v.rotateLeft 1, v.getLsbD 7) ∧
    shift8 .rrc v cin = (v.rotateRight 1, v.getLsbD 0) ∧
    shift8 .rl v cin = (v.extractLsb' 0 7 ++ BitVec.ofBool cin, v.getLsbD 7) ∧
    shift8 .rr v cin = (BitVec.ofBool cin ++ v.extractLsb' 1 7, v.getLsbD 0) ∧
    shift8 .sla v cin = (v.extractLsb' 0 7 ++ 0#1, v.getLsbD 7) ∧
    shift8 .sra v cin = (v.sshiftRight 1, v.getLsbD 0) ∧
    shift8 .swap v cin = (v.extractLsb' 0 4 ++ v.extractLsb' 4 4, false) ∧
    shift8 .srl v cin = (0#1 ++ v.extractLsb' 1 7, v.getLsbD 0)

/-- R315, R317, ..., R329: a `CB` rotate or shift of a register (56 constructors) completes in every state. -/
def Obligations.RotatesAndShiftsOfARegister : Prop :=
  ∀ (op : ShiftOp) (r : Reg8) (s : State),
    let f := shift8 op (s.regs.get r) s.flags.c
    encode (Instr.shift op (.reg r)) = [0xCB#8, opByte 0 op.code r.code] ∧
    exec (Instr.shift op (.reg r)) s = .next { s with
      regs := s.regs.set r f.1
      flags := { z := decide (f.1 = 0#8), n := false, h := false, c := f.2 }
      pc := s.pc + 2
      clkTotal := s.clkTotal + 8 }

/-- R316, R318, ..., R330: a `CB` rotate or shift of the byte at `x[HL]` (eight constructors) completes wherever the bus
returns one: one read, then one write of the same address, and the flags of the computed result. -/
def Obligations.RotatesAndShiftsOfMemory : Prop :=
  ∀ (op : ShiftOp) (v : Byte) (s : State),
    let f := shift8 op v s.flags.c
    encode (Instr.shift op .indHL) = [0xCB#8, opByte 0 op.code 6] ∧
    (s.peek s.hl = none → exec (Instr.shift op .indHL) s =
      .next { s.afterRead s.hl with fault := some (.addressError s.hl.toNat) }) ∧
    (s.peek s.hl = some v → exec (Instr.shift op .indHL) s =
      .next { (s.afterRead s.hl).busWrite s.hl f.1 with
        flags := { z := decide (f.1 = 0#8), n := false, h := false, c := f.2 }
        pc := s.pc + 2
        clkTotal := s.clkTotal + 16 })

/-- R331, R332: `BIT b,r` (56 constructors) and `BIT b,(HL)` (eight): `Z` is the complement of the tested bit, nothing is
written. -/
def Obligations.BitTests : Prop :=
  ∀ (b : Fin 8) (r : Reg8) (v : Byte) (s : State),
    encode (Instr.bit b (.reg r)) = [0xCB#8, opByte 1 b.val r.code] ∧
    encode (Instr.bit b .indHL) = [0xCB#8, opByte 1 b.val 6] ∧
    (s.peek s.hl = none → exec (Instr.bit b .indHL) s =
      .next { s.afterRead s.hl with fault := some (.addressError s.hl.toNat) }) ∧
    exec (Instr.bit b (.reg r)) s = .next { s with
      flags := { z := !(s.regs.get r).getLsbD b.val, n := false, h := true, c := s.flags.c }
      pc := s.pc + 2
      clkTotal := s.clkTotal + 8 } ∧
    (s.peek s.hl = some v → exec (Instr.bit b .indHL) s = .next { s.afterRead s.hl with
      flags := { z := !v.getLsbD b.val, n := false, h := true, c := s.flags.c }
      pc := s.pc + 2
      clkTotal := s.clkTotal + 12 })

/-- R333-R336: `RES b` and `SET b` of a register (112 constructors) and of the byte at `x[HL]` (16) change bit `b` and no
other bit, and no flag; the memory forms write even when the bit had that value. -/
def Obligations.ResetAndSetBit : Prop :=
  ∀ (b : Fin 8) (r : Reg8) (v : Byte) (s : State),
    encode (Instr.res b (.reg r)) = [0xCB#8, opByte 2 b.val r.code] ∧
    encode (Instr.res b .indHL) = [0xCB#8, opByte 2 b.val 6] ∧
    encode (Instr.set b (.reg r)) = [0xCB#8, opByte 3 b.val r.code] ∧
    encode (Instr.set b .indHL) = [0xCB#8, opByte 3 b.val 6] ∧
    (s.peek s.hl = none →
      exec (Instr.res b .indHL) s = .next { s.afterRead s.hl with fault := some (.addressError s.hl.toNat) } ∧
      exec (Instr.set b .indHL) s = .next { s.afterRead s.hl with fault := some (.addressError s.hl.toNat) }) ∧
    ∃ (resR setR resM setM : Byte),
      (∀ i, i < 8 →
        resR.getLsbD i = (if i = b.val then false else (s.regs.get r).getLsbD i) ∧
        setR.getLsbD i = (if i = b.val then true else (s.regs.get r).getLsbD i) ∧
        resM.getLsbD i = (if i = b.val then false else v.getLsbD i) ∧
        setM.getLsbD i = (if i = b.val then true else v.getLsbD i)) ∧
      exec (Instr.res b (.reg r)) s =
        .next { s with regs := s.regs.set r resR, pc := s.pc + 2, clkTotal := s.clkTotal + 8 } ∧
      exec (Instr.set b (.reg r)) s =
        .next { s with regs := s.regs.set r setR, pc := s.pc + 2, clkTotal := s.clkTotal + 8 } ∧
      (s.peek s.hl = some v → exec (Instr.res b .indHL) s =
        .next { (s.afterRead s.hl).busWrite s.hl resM with pc := s.pc + 2, clkTotal := s.clkTotal + 16 }) ∧
      (s.peek s.hl = some v → exec (Instr.set b .indHL) s =
        .next { (s.afterRead s.hl).busWrite s.hl setM with pc := s.pc + 2, clkTotal := s.clkTotal + 16 })

/-! ## Control flow -/

/-- R353-R357: the jumps (`jp_a16`, `jp_NZ_a16`, ..., `jp_HL`, `jr_e8`, `jr_NZ_e8`, ...) complete in every state and
change `pc` and the clock alone; relative targets are `next` plus the signed offset, modulo 0x10000. -/
def Obligations.Jumps : Prop :=
  ∀ (cc : Cond) (a16 : Word) (e8 : Byte) (s : State),
    let holds := match cc with
      | .NZ => !s.flags.z
      | .Z => s.flags.z
      | .NC => !s.flags.c
      | .C => s.flags.c
    let target := BitVec.ofInt 16 ((s.pc.toNat : Int) + 2 + e8.toInt)
    encode (.jp_a16 a16) = [0xC3#8, loByte a16, hiByte a16] ∧
    encode (Instr.jp cc a16) = [opByte 3 cc.code 2, loByte a16, hiByte a16] ∧ encode .jp_HL = [0xE9#8] ∧
    encode (.jr_e8 e8) = [0x18#8, e8] ∧ encode (Instr.jr cc e8) = [opByte 0 (4 + cc.code) 0, e8] ∧
    exec (.jp_a16 a16) s = .next { s with pc := a16, clkTotal := s.clkTotal + 16 } ∧
    exec (Instr.jp cc a16) s = .next (if holds then { s with pc := a16, clkTotal := s.clkTotal + 16 }
      else { s with pc := s.pc + 3, clkTotal := s.clkTotal + 12 }) ∧
    exec .jp_HL s = .next { s with pc := wordOf s.regs.h s.regs.l, clkTotal := s.clkTotal + 4 } ∧
    exec (.jr_e8 e8) s = .next { s with pc := target, clkTotal := s.clkTotal + 12 } ∧
    exec (Instr.jr cc e8) s = .next (if holds then { s with pc := target, clkTotal := s.clkTotal + 12 }
      else { s with pc := s.pc + 2, clkTotal := s.clkTotal + 8 })

/-- R358, R359, R360: the calls (`call_a16`, `call_NZ_a16`, ..., `rst_00H`, ..., `rst_38H`) push the address after the
whole instruction; not taken, the stack is not touched; with `sp < 2` a taken one records `StackError` and changes nothing
else. -/
def Obligations.CallsAndRestarts : Prop :=
  ∀ (cc : Cond) (y : Fin 8) (a16 : Word) (s : State),
    let pushed (next : Word) : State := (s.busWrite (s.sp - 1) (hiByte next)).busWrite (s.sp - 2) (loByte next)
    let call : State := { pushed (s.pc + 3) with sp := s.sp - 2, pc := a16, clkTotal := s.clkTotal + 24 }
    encode (.call_a16 a16) = [0xCD#8, loByte a16, hiByte a16] ∧
    encode (Instr.call cc a16) = [opByte 3 cc.code 4, loByte a16, hiByte a16] ∧
    encode (Instr.rst y) = [opByte 3 y.val 7] ∧
    (0x0002 ≤ s.sp.toNat →
      exec (.call_a16 a16) s = .next call ∧
      (s.flags.holds cc = true → exec (Instr.call cc a16) s = .next call) ∧
      exec (Instr.rst y) s = .next { pushed (s.pc + 1) with
        sp := s.sp - 2, pc := BitVec.ofNat 16 (y.val * 8), clkTotal := s.clkTotal + 16 }) ∧
    (s.flags.holds cc = false → exec (Instr.call cc a16) s =
      .next { s with pc := s.pc + 3, clkTotal := s.clkTotal + 12 }) ∧
    (s.sp.toNat < 0x0002 →
      exec (.call_a16 a16) s = .next { s with fault := some (.stackError s.sp) } ∧
      (s.flags.holds cc = true → exec (Instr.call cc a16) s = .next { s with fault := some (.stackError s.sp) }) ∧
      exec (Instr.rst y) s = .next { s with fault := some (.stackError s.sp) })

/-- R361, R362, R363: the returns (`ret`, `ret_NZ`, ..., `reti`) load `pc` with exactly the popped value; `RETI` sets
`IME` at once and drops a pending `EI`; with `sp > 0xFFFD` a `StackError`, `IME` unchanged; where a stack byte lies past the
ROM image, `AddressError`. -/
def Obligations.Returns : Prop :=
  ∀ (cc : Cond) (lo hi : Byte) (s : State),
    let u : State := { (s.afterRead s.sp).afterRead (s.sp + 1) with sp := s.sp + 2, pc := wordOf hi lo }
    let all (t : State) : Prop := exec .ret s = .next t ∧
      (s.flags.holds cc = true → exec (Instr.retCond cc) s = .next t) ∧ exec .reti s = .next t
    encode .ret = [0xC9#8] ∧ encode (Instr.retCond cc) = [opByte 3 cc.code 0] ∧ encode .reti = [0xD9#8] ∧
    (s.sp.toNat ≤ 0xFFFD → s.peek s.sp = some lo → s.peek (s.sp + 1) = some hi →
      exec .ret s = .next { u with clkTotal := s.clkTotal + 16 } ∧
      (s.flags.holds cc = true → exec (Instr.retCond cc) s = .next { u with clkTotal := s.clkTotal + 20 }) ∧
      exec .reti s = .next { u with clkTotal := s.clkTotal + 16, ime := true, eiPending := false }) ∧
    (s.flags.holds cc = false → exec (Instr.retCond cc) s =
      .next { s with pc := s.pc + 1, clkTotal := s.clkTotal + 8 }) ∧
    (0xFFFD < s.sp.toNat → all { s with fault := some (.stackError s.sp) }) ∧
    (s.sp.toNat ≤ 0xFFFD → s.peek s.sp = none →
      all { s.afterRead s.sp with fault := some (.addressError s.sp.toNat) }) ∧
    (s.sp.toNat ≤ 0xFFFD → s.peek s.sp = some lo → s.peek (s.sp + 1) = none →
      all { (s.afterRead s.sp).afterRead (s.sp + 1) with fault := some (.addressError (s.sp + 1).toNat) })

/-- R351: a subroutine that returns with the stack as it found it resumes at the first instruction not yet executed, with
`sp`, every register and every flag as at the call, for `CALL` and for every `RST`, left by `RET` or by `RETI`. -/
def Obligations.CallThenReturnResumes : Prop :=
  ∀ (y : Fin 8) (a16 : Word) (s : State), s.mem.Good s.cart.ramBanks → 0x0002 ≤ s.sp.toNat →
    s.storesPlainly (s.sp - 1) = true → s.storesPlainly (s.sp - 2) = true →
    ∀ c, (c = .call_a16 a16 ∨ c = Instr.rst y) →
      ∃ t u v, exec c s = .next t ∧ exec .ret t = .next u ∧ exec .reti t = .next v ∧
        t.pc = (if c = .call_a16 a16 then a16 else BitVec.ofNat 16 (y.val * 8)) ∧
        u.pc = s.pc + BitVec.ofNat 16 c.length ∧ u.sp = s.sp ∧ u.regs = s.regs ∧ u.flags = s.flags ∧ u.ime = s.ime ∧
        v.pc = u.pc ∧ v.sp = s.sp ∧ v.regs = s.regs ∧ v.flags = s.flags ∧ v.ime = true ∧ v.fault = s.fault

/-! ## CPU control -/

/-- R370, R373 and the operations of R371, R372, R374: `NOP`, `HALT`, `STOP`, `DI`, `EI` complete in every state. The second
byte of `STOP` is ignored; `EI` itself does not write `IME`. -/
def Obligations.CpuControlInstructions : Prop :=
  ∀ (ignored : Byte) (s : State),
    encode .nop = [0x00#8] ∧ encode .halt = [0x76#8] ∧ encode (.stop ignored) = [0x10#8, ignored] ∧
    encode .di = [0xF3#8] ∧ encode .ei = [0xFB#8] ∧
    exec .nop s = .next { s with pc := s.pc + 1, clkTotal := s.clkTotal + 4 } ∧
    exec .halt s = .next { s with run := .halted, pc := s.pc + 1, clkTotal := s.clkTotal + 4 } ∧
    exec (.stop ignored) s = .next { s with run := .stopped, pc := s.pc + 2, clkTotal := s.clkTotal + 4 } ∧
    exec .di s = .next { s with ime := false, eiPending := false, pc := s.pc + 1, clkTotal := s.clkTotal + 4 } ∧
    exec .ei s = .next { s with eiPending := true, pc := s.pc + 1, clkTotal := s.clkTotal + 4 }

/-- R376, R503, R167: the eleven unassigned values (the constructors `unassigned_D3`, ..., `unassigned_FD`): each is read
alone, records `OpcodeError(op, pc0)` and changes nothing else, in a step too; and no other byte decodes to one. -/
def Obligations.UnassignedOpcodesFault : Prop :=
  Instr.unassigned.map Prod.fst =
    [0xD3#8, 0xDB#8, 0xDD#8, 0xE3#8, 0xE4#8, 0xEB#8, 0xEC#8, 0xED#8, 0xF4#8, 0xFC#8, 0xFD#8] ∧
  (∀ p ∈ Instr.unassigned, ∀ (s : State) (rest : List Byte),
    decode (p.1 :: rest) = .ok (p.2, rest) ∧
    exec p.2 s = .next { s with fault := some (.opcodeError p.1 s.pc) } ∧
    (s.AboutToFetch → s.peek s.pc = some p.1 →
      step s = .next { s.afterRead s.pc with fault := some (.opcodeError p.1 s.pc) })) ∧
  (∀ op b1 b2 : Byte, decodeOp op b1 b2 ∈ Instr.unassigned.map Prod.snd ↔ op ∈ Instr.unassigned.map Prod.fst)

/-- R375: the row `PREFIX CB` (the constructor `prefix_CB`) has no operation of its own: it runs the instruction that its
second byte selects, and nothing is added for the prefix. It completes in every state when the operand is a register, and
wherever the bus returns a byte when it is the byte at `x[HL]`. -/
def Obligations.PrefixRunsTheSelectedInstruction : Prop :=
  ∀ (op2 : Byte) (s : State),
    (∃ i, decode [0xCB#8, op2] = .ok (i, []) ∧ i.wellFormed = true ∧ exec (.prefix_CB op2) s = exec i s) ∧
    (fieldZ op2 ≠ 6 → ∃ t, exec (.prefix_CB op2) s = .next t ∧
      t.pc = s.pc + 2 ∧ t.clkTotal = s.clkTotal + 8 ∧ t.mem = s.mem ∧ t.fault = s.fault) ∧
    (fieldZ op2 = 6 → ∀ v, s.peek s.hl = some v → ∃ t, exec (.prefix_CB op2) s = .next t ∧
      t.pc = s.pc + 2 ∧ t.clkTotal = s.clkTotal + (if fieldX op2 = 1 then 12 else 16) ∧ t.regs = s.regs ∧
      t.fault = s.fault)

/-! ## What every instruction leaves alone -/

/-- R72, R134: every byte of storage but those that the instruction stores to is unchanged (`Instr.storeAddrs` computes the
addresses with the meaning's own functions), for every instruction and every form; an instruction that stores nothing
leaves all memory, `IE` and the bank registers alone; and where it stores to plain storage, every address that is not
behind a stored byte reads as before. -/
def Obligations.InstructionsStoreOnlyWhereTheySay : Prop :=
  ∀ (i : Instr) (s t : State), exec i s = .next t →
    (∀ n k, (∀ a ∈ i.storeAddrs s, s.target a ≠ some (n, k)) → t.cell n k = s.cell n k) ∧
    (0xFFFF#16 ∉ i.storeAddrs s → t.ie = s.ie) ∧
    ((∀ a ∈ i.storeAddrs s, 0x8000 ≤ a.toNat) → t.bank = s.bank) ∧
    (i.storeAddrs s = [] → t.mem = s.mem) ∧
    (t.bootActive = s.bootActive → (∀ a ∈ i.storeAddrs s, s.storesPlainly a = true) →
      ∀ b, (∀ a ∈ i.storeAddrs s, s.target a ≠ s.target b) → t.peek b = s.peek b)

/-- R168's last row, R23: an instruction that is in no other row of the table leaves all four flags as they were. -/
def Obligations.OtherInstructionsLeaveTheFlags : Prop :=
  ∀ (i : Instr) (s t : State), i.writesFlags = false → exec i s = .next t → t.flags = s.flags

/-- R25, R26, R27, R430 and R401: an instruction answers a next state whatever it is, leaves the PPU's mode, its mode counter
and the frame buffer alone (`LY` and `LCDC` are I/O bytes, which a store may write), advances the clock by its own cost of
4 to 24 cycles or, where it raises, by nothing, and only the five control instructions write `IME`, the `EI` delay or the
run state. -/
def Obligations.InstructionsLeaveTheUnitsAlone : Prop :=
  ∀ (i : Instr) (s : State), ∃ t, exec i s = .next t ∧
    t.cart = s.cart ∧ t.boot = s.boot ∧ t.cfg = s.cfg ∧
    t.clkMode = s.clkMode ∧ t.ppuMode = s.ppuMode ∧ t.mem.fb = s.mem.fb ∧
    (t.bootActive = true → s.bootActive = true) ∧
    (t.fault = none → s.clkTotal + 4 ≤ t.clkTotal) ∧ t.clkTotal ≤ s.clkTotal + 24 ∧
    (s.fault = none → t.fault ≠ none → t.clkTotal = s.clkTotal) ∧
    (i ≠ .di → i ≠ .reti → t.ime = s.ime) ∧
    (i ≠ .di → i ≠ .reti → i ≠ .ei → t.eiPending = s.eiPending) ∧
    (i ≠ .halt → (∀ x, i ≠ .stop x) → t.run = s.run)

/-! ## The bus -/

/-- R71, R73, R74, R78-R86, R105, R107: what a bus read returns, by address, and its one side effect. Echo addresses are
the addresses 0x2000 below them. Which bank of video and work RAM is visible, and what colour mode is (R78, R81, R5). The
spec marks two clauses as its own decisions: that addresses past the boot image show the cartridge (R73: D16), and what sets
colour mode (R5: D10). -/
def Obligations.BusReadMap : Prop :=
  ∀ (s : State) (a : Word),
    let n := a.toNat
    let overlaid := ∃ img, s.boot = some img ∧ s.bootActive = true ∧ (n ≤ 0x00FF ∨ (0x0200 ≤ n ∧ n ≤ 0x08FF)) ∧ n < img.size
    (∀ img, s.boot = some img → s.bootActive = true → (n ≤ 0x00FF ∨ (0x0200 ≤ n ∧ n ≤ 0x08FF)) → n < img.size →
      s.busRead a = .ok (img.cells.read n) s) ∧
    (¬ overlaid → n ≤ 0x7FFF →
      let bank := (if n ≤ 0x3FFF then s.rom00Bank else s.romNNBank) % max (s.cart.rom.size / 0x4000) 1
      let u := if n = 0x0100 then { s with bootActive := false } else s
      (bank * 0x4000 + n % 0x4000 < s.cart.rom.size →
        s.busRead a = .ok (s.cart.rom.cells.read (bank * 0x4000 + n % 0x4000)) u) ∧
      (s.cart.rom.size ≤ bank * 0x4000 + n % 0x4000 →
        s.busRead a = .raised { u with fault := some (.addressError n) })) ∧
    (0x8000 ≤ n → n ≤ 0x9FFF → s.busRead a = .ok (s.cell .vram (s.vbank * 0x2000 + (n - 0x8000))) s) ∧
    (0xA000 ≤ n → n ≤ 0xBFFF →
      s.busRead a = .ok (match s.xramCell (n - 0xA000) with | some k => s.cell .xram k | none => 0xFF#8) s) ∧
    (0xC000 ≤ n → n ≤ 0xCFFF → s.busRead a = .ok (s.cell .wram (n - 0xC000)) s) ∧
    (0xD000 ≤ n → n ≤ 0xDFFF → s.busRead a = .ok (s.cell .wram (s.wbank * 0x1000 + (n - 0xD000))) s) ∧
    (0xE000 ≤ n → n ≤ 0xFDFF → s.busRead a = s.busRead (a - 0x2000#16)) ∧
    (0xFE00 ≤ n → n ≤ 0xFE9F → s.busRead a = .ok (s.cell .oam (n - 0xFE00)) s) ∧
    (0xFEA0 ≤ n → n ≤ 0xFEFF → s.busRead a = .ok (a.extractLsb' 4 4 ++ a.extractLsb' 4 4) s) ∧
    (0xFF00 ≤ n → n ≤ 0xFF7F → s.busRead a = .ok (s.ioRead (n - 0xFF00)) s) ∧
    (0xFF80 ≤ n → n ≤ 0xFFFE → s.busRead a = .ok (s.cell .hram (n - 0xFF80)) s) ∧
    (n = 0xFFFF → s.busRead a = .ok (0b111#3 ++ s.ie) s) ∧
    (s.colorMode = match s.boot with
      | some img => decide (256 < img.size)
      | none => s.cfg.colorModeNoBoot) ∧
    (s.vbank = if s.colorMode = true then ((s.io 0x4F).getLsbD 0).toNat else 0) ∧
    (s.colorMode = false → s.wbank = 1) ∧
    (s.colorMode = true → s.wbank =
      if (s.io 0x70).extractLsb' 0 3 = 0#3 then 1 else ((s.io 0x70).extractLsb' 0 3).toNat)

/-- R138, R82: a byte written to plain storage is what the very next read returns, at that address and at every alias of it
(echo RAM). -/
def Obligations.StoreThenReadReturnsTheByte : Prop :=
  ∀ (s : State) (a b : Word) (v : Byte), s.mem.Good s.cart.ramBanks → s.storesPlainly a = true →
    s.target b = s.target a → (s.busWrite a v).peek b = some v ∧ (s.busWrite a v).busRead b = .ok v (s.busWrite a v)

/-- R72: a bus write changes one storage cell at most, and outside storage only what its address's rule names; a write to
plain storage changes what no other cell's addresses read. It never faults. -/
def Obligations.BusWriteFrame : Prop :=
  ∀ (s : State) (a : Word) (v : Byte),
    s.busWrite a v = { s with
      mem := (s.busWrite a v).mem
      ie := if a = 0xFFFF#16 then v.setWidth 5 else s.ie
      bank := (s.busWrite a v).bank
      bootActive := s.bootActive && !(decide (a = 0xFF50#16) && decide (v ≠ 0x00#8)) } ∧
    (0x8000 ≤ a.toNat → (s.busWrite a v).bank = s.bank) ∧
    (s.target a = none → (s.busWrite a v).mem = s.mem) ∧
    (∀ n k, s.target a ≠ some (n, k) → (s.busWrite a v).cell n k = s.cell n k) ∧
    (s.storesPlainly a = true → ∀ b, s.target b ≠ s.target a → (s.busWrite a v).peek b = s.peek b)

/-- R90-R93, R96-R98, R105: the I/O registers with an access rule of their own, and `IE`: what a read returns, and what it
returns after a write. -/
def Obligations.IoAccessRules : Prop :=
  ∀ (s : State) (v : Byte), s.mem.Good s.cart.ramBanks →
    (s.peek 0xFF00#16 = some (s.io 0x00) ∧
      (s.busWrite 0xFF00#16 v).peek 0xFF00#16 = some ((v &&& 0xF0#8) ||| (s.io 0x00 &&& 0x0F#8))) ∧
    (s.peek 0xFF04#16 = some (s.io 0x04) ∧ s.busWrite 0xFF04#16 v = s.store .io 0x04 0x00#8 ∧
      (s.busWrite 0xFF04#16 v).peek 0xFF04#16 = some 0x00#8) ∧
    (s.peek 0xFF07#16 = some (s.io 0x07) ∧ (s.busWrite 0xFF07#16 v).peek 0xFF07#16 = some (v ||| 0xF8#8)) ∧
    (s.peek 0xFF0F#16 = some (s.io 0x0F ||| 0xE0#8) ∧ (s.busWrite 0xFF0F#16 v).io 0x0F = v ||| 0xE0#8 ∧
      (s.busWrite 0xFF0F#16 v).peek 0xFF0F#16 = some (v ||| 0xE0#8)) ∧
    (s.colorMode = true → s.peek 0xFF4F#16 = some (s.io 0x4F) ∧ (s.busWrite 0xFF4F#16 v).peek 0xFF4F#16 = some v ∧
      s.peek 0xFF70#16 = some (s.io 0x70) ∧ (s.busWrite 0xFF70#16 v).peek 0xFF70#16 = some v) ∧
    (s.colorMode = false → s.peek 0xFF4F#16 = some 0xFF#8 ∧ s.busWrite 0xFF4F#16 v = s ∧
      s.peek 0xFF70#16 = some 0xFF#8 ∧ s.busWrite 0xFF70#16 v = s) ∧
    (s.peek 0xFF50#16 = some (s.io 0x50) ∧ (s.busWrite 0xFF50#16 v).peek 0xFF50#16 = some v ∧
      s.busWrite 0xFF50#16 v =
        { s.store .io 0x50 v with bootActive := s.bootActive && decide (v = 0x00#8) }) ∧
    (s.peek 0xFFFF#16 = some (s.ie.setWidth 8 ||| 0xE0#8) ∧
      s.busWrite 0xFFFF#16 v = { s with ie := v.setWidth 5 } ∧ (s.busWrite 0xFFFF#16 v).ie.setWidth 8 = v &&& 0x1F#8 ∧
      (s.busWrite 0xFFFF#16 v).peek 0xFFFF#16 = some (v ||| 0xE0#8))

/-- R77, R108, R109, R111-R114: the bank controllers' register windows, the banks they make visible, and the RAM gate; a
write to 0x0000-0x7FFF changes bank registers alone. -/
def Obligations.BankControllerRules : Prop :=
  ∀ (s : State) (a : Word) (v : Byte),
    let n := a.toNat
    let gated : BankRegs := { s.bank with ramEnable := decide (v &&& 0x0F#8 = 0x0A#8) }
    let rom (mask : Byte) : BankRegs :=
      { s.bank with romBank := if v &&& mask = 0#8 then 1#9 else (v &&& mask).setWidth 9 }
    let ram (mask : Byte) : BankRegs := { s.bank with ramBank := (v &&& mask).setWidth 4 }
    let open' := s.cart.ramBanks ≠ 0 ∧ s.bank.ramEnable = true
    (n ≤ 0x7FFF → s.busWrite a v = { s with bank := (s.busWrite a v).bank } ∧
      (s.cart.mbc = .romOnly → (s.busWrite a v).bank = s.bank) ∧
      (s.cart.mbc ≠ .romOnly → n ≤ 0x1FFF → (s.busWrite a v).bank = gated) ∧
      (s.cart.mbc ≠ .romOnly → s.cart.mbc ≠ .mbc1 → 0x4000 ≤ n → n ≤ 0x5FFF →
        (s.busWrite a v).bank = ram 0x0F#8) ∧
      (s.cart.mbc ≠ .romOnly → s.cart.mbc ≠ .mbc1 → 0x6000 ≤ n → (s.busWrite a v).bank = s.bank) ∧
      (s.cart.mbc = .mbc1 →
        (0x2000 ≤ n → n ≤ 0x3FFF → (s.busWrite a v).bank = rom 0x1F#8) ∧
        (0x4000 ≤ n → n ≤ 0x5FFF → (s.busWrite a v).bank = ram 0x03#8) ∧
        (0x6000 ≤ n → (s.busWrite a v).bank = { s.bank with mbc1Mode := v.getLsbD 0 })) ∧
      (s.cart.mbc = .mbc3 → 0x2000 ≤ n → n ≤ 0x3FFF → (s.busWrite a v).bank = rom 0x7F#8) ∧
      (s.cart.mbc = .mbc30 → 0x2000 ≤ n → n ≤ 0x3FFF → (s.busWrite a v).bank = rom 0xFF#8) ∧
      (s.cart.mbc = .mbc5 →
        (0x2000 ≤ n → n ≤ 0x2FFF →
          (s.busWrite a v).bank = { s.bank with romBank := s.bank.romBank.extractLsb' 8 1 ++ v }) ∧
        (0x3000 ≤ n → n ≤ 0x3FFF → (s.busWrite a v).bank =
          { s.bank with romBank := BitVec.ofBool (v.getLsbD 0) ++ s.bank.romBank.extractLsb' 0 8 }))) ∧
    (s.cart.mbc = .romOnly → s.rom00Bank = 0 ∧ s.romNNBank = 1 ∧ s.xramCell n = none) ∧
    (s.cart.mbc = .mbc1 → s.rom00Bank = (if s.bank.mbc1Mode then s.bank.ramBank.toNat * 0x20 else 0) ∧
      s.romNNBank = s.bank.ramBank.toNat * 0x20 + s.bank.romBank.toNat ∧
      (open' → s.xramCell n =
        some ((if s.bank.mbc1Mode then s.bank.ramBank.toNat else 0) % s.cart.ramBanks * 0x2000 + n))) ∧
    ((s.cart.mbc = .mbc3 ∨ s.cart.mbc = .mbc30 ∨ s.cart.mbc = .mbc5) →
      s.rom00Bank = 0 ∧ s.romNNBank = s.bank.romBank.toNat ∧
      (open' → s.xramCell n =
        if (s.cart.mbc = .mbc3 ∧ 0x03 < s.bank.ramBank.toNat) ∨ (s.cart.mbc = .mbc30 ∧ 0x07 < s.bank.ramBank.toNat)
        then none else some (s.bank.ramBank.toNat % s.cart.ramBanks * 0x2000 + n))) ∧
    (¬ open' → s.xramCell n = none)

/-! ## One step -/

/-- R150, R151, R153, R403: where no interrupt is taken and the bytes from `pc` on are an instruction, the step runs it: its
meaning in the state after the fetch (which only a fetch from 0x0100 changes, R74), then the end of an `EI` delay, then the
PPU's tick. The bytes may wrap from 0xFFFF to 0x0000. -/
def Obligations.StepRunsTheDecodedInstruction : Prop :=
  ∀ (s : State) (bytes : List Byte) (i : Instr), s.AboutToFetch → decode bytes = .ok (i, []) →
    (∀ k (h : k < bytes.length), s.peek (s.pc + BitVec.ofNat 16 k) = some bytes[k]) →
    let fetched : State := { s with
      bootActive := s.bootActive &&
        (List.range bytes.length).all (fun k => decide (s.pc + BitVec.ofNat 16 k ≠ 0x0100#16)) }
    step s = onNext (exec i fetched) (fun t => .next ((t.endEiDelay s.eiPending).ppuTick))

/-- What the model's step is where no instruction runs; no rule says it of a step. A faulted machine answers its fault
(log 5, DEDUCED: R501 and R28 say that nothing changes and that a model should treat it as terminal). A stopped one answers
the same state again, and past the frame budget the reduction of both counters modulo 70224, each to its own remainder
(R405), is a step of its own (log 4, DESIGN CHOICE: R403's loop returns to the host in both cases). A halted one with
nothing pending idles 4 cycles and the PPU ticks, one iteration of that loop (log 4; R371). -/
def Obligations.StepsThatRunNoInstruction : Prop :=
  ∀ (s : State),
    (∀ f, s.fault = some f → step s = .fault f) ∧
    (s.fault = none → s.run = .stopped → step s = .next s) ∧
    (s.fault = none → s.run ≠ .stopped → 70224 < s.clkTotal →
      step s = .next { s with clkTotal := s.clkTotal % 70224, clkMode := s.clkMode % 70224 }) ∧
    (s.fault = none → s.clkTotal ≤ 70224 → s.run = .halted → s.pending = 0#5 →
      step s = .next (State.ppuTick { s with clkTotal := s.clkTotal + 4 }))

/-- R374, R373, R363: what the step of an instruction that does not fault leaves in `IME` and in the `EI` delay. `EI` takes
effect after the following instruction has completed, `DI` in between cancels it, `RETI` acts at once. -/
def Obligations.EnableInterruptsIsDelayedByOneInstruction : Prop :=
  ∀ (s t : State) (bytes : List Byte) (i : Instr), s.AboutToFetch → decode bytes = .ok (i, []) →
    (∀ k (h : k < bytes.length), s.peek (s.pc + BitVec.ofNat 16 k) = some bytes[k]) →
    step s = .next t → t.fault = none →
    (i = .di → t.ime = false ∧ t.eiPending = false) ∧
    (i = .reti → t.ime = true ∧ t.eiPending = false) ∧
    (i = .ei → s.eiPending = false → t.ime = s.ime ∧ t.eiPending = true) ∧
    (i = .ei → s.eiPending = true → t.ime = true ∧ t.eiPending = false) ∧
    (i ≠ .di → i ≠ .reti → i ≠ .ei → s.eiPending = true → t.ime = true ∧ t.eiPending = false) ∧
    (i ≠ .di → i ≠ .reti → i ≠ .ei → s.eiPending = false → t.ime = s.ime ∧ t.eiPending = false)

/-- R507, R501, R502, R506, R151, R115, R116: when a step records a fault, and what it leaves. The state is what the interrupt
check of that step left, with the fault, but for a boot overlay that a read of 0x0100 switched off. Where the machine is
about to fetch and the bus returns no byte at `pc`, or no byte at `pc + k` after all those before it, `k` below the length
that byte 0 asks for, the step records `AddressError` of that address and changes nothing else: an operand that cannot be
fetched comes before anything the instruction would do or raise. -/
def Obligations.FaultsArePrecise : Prop :=
  (∀ (s t : State) (f : Fault), s.Ticks → step s = .next t → t.fault = some f →
    ∃ b, t = { s.interruptCheck with fault := some f, bootActive := b } ∧ (b = true → s.bootActive = true) ∧
      (s.AboutToFetch → s.interruptCheck = s)) ∧
  (∀ (s : State) (k : Nat), s.AboutToFetch →
    (k = 0 ∨ ∃ op i rest, s.peek s.pc = some op ∧ decode [op, 0#8, 0#8] = .ok (i, rest) ∧ k < i.length) →
    (∀ j, j < k → (s.peek (s.pc + BitVec.ofNat 16 j)).isSome = true) → s.peek (s.pc + BitVec.ofNat 16 k) = none →
    step s = .next { s with
      fault := some (.addressError (s.pc + BitVec.ofNat 16 k).toNat)
      bootActive := s.bootActive &&
        (List.range (k + 1)).all (fun j => decide (s.pc + BitVec.ofNat 16 j ≠ 0x0100#16)) })

/-- R406, which the spec marks as its own derivation: one step of the frame loop adds at most 48 cycles, and at least 4 when
it records no fault. -/
def Obligations.TickCycleBounds : Prop :=
  ∀ (s t : State), s.Ticks → step s = .next t →
    s.clkTotal ≤ t.clkTotal ∧ t.clkTotal ≤ s.clkTotal + 48 ∧ (t.fault = none → s.clkTotal + 4 ≤ t.clkTotal)

/-- R29, R74, R77, R90, R603: no step changes the ROM image, the bank-controller variant, the boot image, the parameters or
the colour mode; none switches the overlay back on; and none writes the joypad nibble of `P1`, which only the host does. -/
def Obligations.NoStepChangesConfigurationOrJoypad : Prop :=
  ∀ (s t : State), s.Inv → step s = .next t →
    t.cart = s.cart ∧ t.boot = s.boot ∧ t.cfg = s.cfg ∧ t.colorMode = s.colorMode ∧
    (t.bootActive = true → s.bootActive = true) ∧ t.io 0x00 &&& 0x0F#8 = s.io 0x00 &&& 0x0F#8

/-- The state after reset is construction with the default parameters followed by `start()` (the model's choice, log 1), and
the machine invariant holds of it. -/
def Obligations.ResetMeetsTheInvariant : Prop :=
  State.reset = (State.construct Config.default).start ∧ State.reset.Inv

/-- Every step keeps the machine invariant: every array stays in canonical form and within its size (R29), the images too,
the bank-controller registers keep to the values of their variant (R108-R114), and both counters stay within a frame and
one tick (R405, R406). -/
def Obligations.StepKeepsTheInvariant : Prop := ∀ (s t : State), s.Inv → step s = .next t → t.Inv

/-! ## Interrupts -/

/-- R510, R512, R513, R515: the interrupt check, whole. With nothing pending, nothing. With `IME` set and `sp < 2`, a
`StackError` before any change. With `IME` clear, only the halt is left. Else the lowest pending source `n` is taken: `pc`
is pushed, `IME` and the `EI` delay are cleared, 20 cycles pass (4 more out of a halt), bit `n` of `IF` is cleared and no
other, and `pc` is the vector. -/
def Obligations.InterruptCheckTakesTheLowestSource : Prop :=
  ∀ (s : State),
    let awake : RunState := if s.run = .halted then .running else s.run
    let exitCost := if s.run = .halted then 4 else 0
    (s.pending = s.ie &&& (s.io 0x0F).setWidth 5) ∧
    (s.pending = 0#5 → s.interruptCheck = s) ∧
    (s.pending ≠ 0#5 → s.ime = true → s.sp.toNat < 0x0002 →
      s.interruptCheck = { s with fault := some (.stackError s.sp) }) ∧
    (s.pending ≠ 0#5 → s.ime = false →
      s.interruptCheck = { s with run := awake, clkTotal := s.clkTotal + exitCost }) ∧
    (∀ n, n < 5 → s.pending.getLsbD n = true → (∀ m, m < n → s.pending.getLsbD m = false) → s.ime = true →
      0x0002 ≤ s.sp.toNat →
      let m := (s.busWrite (s.sp - 1) (hiByte s.pc)).busWrite (s.sp - 2) (loByte s.pc)
      s.interruptCheck =
        { m.store .io 0x0F (m.io 0x0F &&& ~~~(1#8 <<< n)) with
          ime := false
          eiPending := false
          run := awake
          sp := s.sp - 2
          pc := BitVec.ofNat 16 (0x0040 + 8 * n)
          clkTotal := s.clkTotal + exitCost + 20 })

/-- R512, R150: the tick that takes an interrupt goes on to run the first instruction of the handler: whenever the check
leaves the CPU running and unfaulted, the step is that instruction's, from the state the check left. -/
def Obligations.InterruptedStepRunsTheHandler : Prop :=
  ∀ (s : State) (bytes : List Byte) (i : Instr), s.Ticks → s.interruptCheck.fault = none →
    s.interruptCheck.run = .running → decode bytes = .ok (i, []) →
    (∀ k (h : k < bytes.length), s.interruptCheck.peek (s.interruptCheck.pc + BitVec.ofNat 16 k) = some bytes[k]) →
    let fetched : State := { s.interruptCheck with
      bootActive := s.interruptCheck.bootActive &&
        (List.range bytes.length).all
          (fun k => decide (s.interruptCheck.pc + BitVec.ofNat 16 k ≠ 0x0100#16)) }
    step s = onNext (exec i fetched) (fun t => .next ((t.endEiDelay s.interruptCheck.eiPending).ppuTick))

/-! ## The PPU -/

/-- R432, R433, R434, R436, R437, R438: the PPU's tick, whole: nothing when faulted, when the LCD is off or before the gate
opens; else one transition, `clk.mode` moving by the old mode's threshold; the VBlank request is raised when `LY` becomes
144 and by no other transition. -/
def Obligations.PpuModeMachine : Prop :=
  ∀ (s : State),
    let due (n : Nat) := s.fault = none ∧ (s.io 0x40).getLsbD 7 = true ∧ s.clkMode + n ≤ s.clkTotal
    let withLy (v : Byte) : Arrays := { s.mem with io := s.mem.io.write 0x44 v }
    (s.fault ≠ none → s.ppuTick = s) ∧
    ((s.io 0x40).getLsbD 7 = false → s.ppuTick = s) ∧
    (s.clkTotal < s.clkMode +
      (match s.ppuMode with | .oam => 80 | .transfer => 170 | .hblank => 206 | .vblank => 456) → s.ppuTick = s) ∧
    (s.ppuMode = .oam → due 80 → s.ppuTick = { s with clkMode := s.clkMode + 80, ppuMode := .transfer }) ∧
    (s.ppuMode = .transfer → due 170 → s.ly.toNat ≤ 143 →
      s.ppuTick = { s with
        clkMode := s.clkMode + 170
        ppuMode := .hblank
        mem := { s.mem with fb := s.mem.fb.writeBlock (s.ly.toNat * 640) (s.scanline s.ly.toNat) } }) ∧
    (s.ppuMode = .transfer → due 170 → 143 < s.ly.toNat →
      s.ppuTick = { s with clkMode := s.clkMode + 170, ppuMode := .hblank }) ∧
    (s.ppuMode = .hblank → due 206 → s.ly = 143#8 →
      s.ppuTick = { s with
        clkMode := s.clkMode + 206
        ppuMode := .vblank
        mem := { s.mem with io := (s.mem.io.write 0x44 144#8).write 0x0F (s.io 0x0F ||| 0x01#8) } }) ∧
    (s.ppuMode = .hblank → due 206 → s.ly ≠ 143#8 →
      s.ppuTick = { s with
        clkMode := s.clkMode + 206
        ppuMode := .oam
        mem := withLy (BitVec.ofNat 8 ((s.ly.toNat + 1) % 0x100)) }) ∧
    (s.ppuMode = .vblank → due 456 → s.ly.toNat = 153 →
      s.ppuTick = { s with clkMode := s.clkMode + 456, ppuMode := .oam, mem := withLy 0#8 }) ∧
    (s.ppuMode = .vblank → due 456 → s.ly.toNat ≠ 153 →
      s.ppuTick = { s with
        clkMode := s.clkMode + 456, mem := withLy (BitVec.ofNat 8 ((s.ly.toNat + 1) % 0x100)) })

/-- R440-R446, R448: what the transition out of `Transfer` leaves in the frame buffer. Every pixel of the line is the one the
scroll registers, the tile map, the tile data and the palette give, R, G, B, 0xFF in increasing address; every byte of
every other line keeps its value. -/
def Obligations.RenderedLine : Prop :=
  ∀ (s : State) (x : Nat), s.fault = none → (s.io 0x40).getLsbD 7 = true →
    s.ppuMode = .transfer → s.clkMode + 170 ≤ s.clkTotal → s.ly.toNat ≤ 143 → x < 160 →
    let px := (x + (s.io 0x43).toNat) % 256
    let py := (s.ly.toNat + (s.io 0x42).toNat) % 256
    let mapBase := if (s.io 0x40).getLsbD 3 then 0x1C00 else 0x1800
    let idx := (s.mem.vram.read (mapBase + py / 8 * 32 + px / 8)).toNat
    let tile := if (s.io 0x40).getLsbD 4 then idx * 16 else if idx < 0x80 then 0x1000 + idx * 16 else idx * 16
    let lo := s.mem.vram.read (tile + py % 8 * 2)
    let hi := s.mem.vram.read (tile + py % 8 * 2 + 1)
    let ci := (if hi.getLsbD (7 - px % 8) then 2 else 0) + (if lo.getLsbD (7 - px % 8) then 1 else 0)
    let shade := s.cfg.shade ((s.io 0x47).toNat / 4 ^ ci % 4)
    let o := (s.ly.toNat * 160 + x) * 4
    s.ppuTick.cell .fb o = shade.r ∧ s.ppuTick.cell .fb (o + 1) = shade.g ∧ s.ppuTick.cell .fb (o + 2) = shade.b ∧
    s.ppuTick.cell .fb (o + 3) = 0xFF#8 ∧
    (∀ k, (k < s.ly.toNat * 640 ∨ s.ly.toNat * 640 + 640 ≤ k) → s.ppuTick.cell .fb k = s.cell .fb k)

/-! ## Reset and the host's operations -/

/-- R60, R601, R604, R607: the values of every piece of state at construction (for any parameters), after `start()` with and
without a boot ROM, and after `reset()` from any state, running, stopped or faulted; what `reset()` does not name, memory
but `LY` included, keeps its value. The spec marks every value but those of `start()` as its own decision (R60: D20, D21). -/
def Obligations.ResetValues : Prop :=
  (∀ cfg : Config, Memory.wf cfg.ioInit = true →
    let s := State.construct cfg
    s.regs = ⟨0#8, 0#8, 0#8, 0#8, 0#8, 0#8, 0#8⟩ ∧ s.flags = ⟨false, false, false, false⟩ ∧ s.sp = 0#16 ∧ s.pc = 0#16 ∧
    s.ime = false ∧ s.eiPending = false ∧ s.run = .running ∧ s.fault = none ∧ s.bootActive = false ∧
    s.bank = ⟨1#9, 0#4, false, false⟩ ∧ s.ie = 0#5 ∧ s.clkTotal = 0 ∧ s.clkMode = 0 ∧ s.ppuMode = .oam ∧
    s.cart.rom.size = 0 ∧ s.cart.mbc = .romOnly ∧ s.cart.ramBanks = 0 ∧ s.boot = none ∧ s.cfg = cfg ∧
    (∀ n k, n ≠ .io → s.cell n k = 0x00#8) ∧ (∀ k, k ≠ 0x00 → s.io k = Memory.read cfg.ioInit k) ∧
    s.io 0x00 = (Memory.read cfg.ioInit 0x00 &&& 0xF0#8) ||| cfg.joypadLow.setWidth 8) ∧
  (∀ (s : State) (bytes : List Byte), ∃ img, img.size = bytes.length ∧
    (∀ k (h : k < bytes.length), img.cells.read k = bytes[k]) ∧
    s.loadBootRom bytes = { s with boot := some img, bootActive := true }) ∧
  (∀ s : State, s.boot ≠ none → s.start = s) ∧
  (∀ s : State, s.boot = none → s.start = { s with
    regs := ⟨0x01#8, 0x00#8, 0x13#8, 0x00#8, 0xD8#8, 0x01#8, 0x4D#8⟩
    flags := ⟨true, false, true, true⟩
    sp := 0xFFFE#16
    pc := 0x0100#16 }) ∧
  (∀ s : State, s.hostReset = { s with
    regs := ⟨0#8, 0#8, 0#8, 0#8, 0#8, 0#8, 0#8⟩
    flags := ⟨false, false, false, false⟩
    sp := 0#16
    pc := 0#16
    ime := false
    eiPending := false
    run := .running
    fault := none
    bootActive := s.boot.isSome
    bank := ⟨1#9, 0#4, false, false⟩
    mem := { s.mem with io := s.mem.io.write 0x44 0#8 }
    clkTotal := 0
    clkMode := 0
    ppuMode := .oam })

/-- R602, R121, R122, R123: `loadCartridge`. It refuses an image of less than 0x0150 bytes, a type byte outside the table and
a RAM-size code outside the list, and loads every other image, with the variant and the number of RAM banks that the two
bytes and the length select. Where two causes hold, which reason is reported is the model's choice (log 17): this states the
length for a short image whatever its bytes, and leaves the reason open for two unlisted bytes. That the code counts where
the type has no RAM is log 9. What a load leaves: the image is the bytes given, the bank registers are at their start
values, cartridge RAM is zero, nothing else changes, and the machine invariant is kept; so with no overlay active a read
below 0x4000 returns the image's byte (R71, R107, R108, R111-R114). -/
def Obligations.LoadedCartridge : Prop :=
  (∀ (s : State) (bytes : List Byte), bytes.length < 0x0150 → s.loadCartridge bytes = .error (.tooShort bytes.length)) ∧
  (∀ (s : State) (bytes : List Byte) (h : 0x0150 ≤ bytes.length),
    let typeByte := bytes[0x0147]
    let ramCode := bytes[0x0149]
    let variantAndRam : Option (Mbc × Bool) :=
      if typeByte = 0x00#8 then some (.romOnly, false)
      else if typeByte = 0x01#8 then some (.mbc1, false)
      else if typeByte ∈ [0x02#8, 0x03#8] then some (.mbc1, true)
      else if typeByte ∈ [0x0F#8, 0x11#8] then some (.mbc3, false)
      else if typeByte ∈ [0x10#8, 0x12#8, 0x13#8] then some (.mbc3, true)
      else if typeByte ∈ [0x19#8, 0x1C#8] then some (.mbc5, false)
      else if typeByte ∈ [0x1A#8, 0x1B#8, 0x1D#8, 0x1E#8] then some (.mbc5, true)
      else none
    let banks : Option Nat := [0, 1, 1, 4, 16, 8][ramCode.toNat]?
    (∀ m ram n, variantAndRam = some (m, ram) → banks = some n →
      let ramBanks := if ram = true then n else 0
      ∃ t, s.loadCartridge bytes = .ok t ∧ t.cart.ramBanks = ramBanks ∧
        t.cart.mbc = if m = .mbc3 ∧ (0x200000 < bytes.length ∨ 4 < ramBanks) then .mbc30 else m) ∧
    (variantAndRam = none → banks ≠ none → s.loadCartridge bytes = .error (.unsupportedType typeByte)) ∧
    (variantAndRam ≠ none → banks = none → s.loadCartridge bytes = .error (.unsupportedRamSize ramCode)) ∧
    (variantAndRam = none → banks = none → ∃ e, s.loadCartridge bytes = .error e)) ∧
  (∀ (s t : State) (bytes : List Byte), s.loadCartridge bytes = .ok t →
    t = { s with cart := t.cart, bank := ⟨1#9, 0#4, false, false⟩, mem := { s.mem with xram := [] } } ∧
    t.cart.rom.size = bytes.length ∧
    (∀ k (h : k < bytes.length), t.cart.rom.cells.read k = bytes[k]) ∧
    (∀ k (h : k < bytes.length), k < 0x4000 → s.bootActive = false → t.peek (BitVec.ofNat 16 k) = some bytes[k]) ∧
    (s.Inv → t.Inv))
end

