-- ==== Sys2Proof/Laws/Memory.lean ====
section
/-! SUPPORT. The laws of one byte array: what a write leaves, and that every operation keeps the canonical form and the
size. -/
namespace Sys2Proof.Machine

/-! ## Reading -/

@[simp] theorem Memory.read_nil (k : Nat) : Memory.read [] k = 0x00#8 := rfl

theorem Memory.read_cons (j : Nat) (v : Byte) (m : Memory) (k : Nat) :
    Memory.read ((j, v) :: m) k = if j = k then v else Memory.read m k := rfl

/-- The canonical form from a higher cell on is canonical from a lower one. -/
theorem Memory.wfFrom_mono {lo lo' : Nat} {m : Memory} (h : Memory.wfFrom lo m = true) (hle : lo' ≤ lo) :
    Memory.wfFrom lo' m = true := by
  cases m with
  | nil => rfl
  | cons c m =>
    simp only [Memory.wfFrom, Bool.and_eq_true, decide_eq_true_eq] at h ⊢
    exact ⟨⟨by omega, h.1.2⟩, h.2⟩

/-- A cell below the first listed one reads as an unlisted cell. -/
theorem Memory.read_of_lt {lo k : Nat} {m : Memory} (h : Memory.wfFrom lo m = true) (hk : k < lo) :
    Memory.read m k = 0x00#8 := by
  induction m generalizing lo with
  | nil => rfl
  | cons c m ih =>
    simp only [Memory.wfFrom, Bool.and_eq_true, decide_eq_true_eq] at h
    rw [Memory.read_cons, if_neg (by omega)]
    exact ih h.2 (by omega)

theorem Memory.read_consCell (j : Nat) (v : Byte) (m : Memory) (k : Nat) :
    Memory.read (Memory.consCell j v m) k =
      if j = k then (if v = 0x00#8 then Memory.read m k else v) else Memory.read m k := by
  unfold Memory.consCell Memory.unlisted
  split <;> simp_all [Memory.read_cons]

/-- A write leaves every other cell. -/
theorem Memory.read_write_ne (m : Memory) {j k : Nat} (v : Byte) (h : k ≠ j) :
    Memory.read (Memory.write m j v) k = Memory.read m k := by
  induction m with
  | nil => simp [Memory.write, Memory.read_consCell, Ne.symm h]
  | cons c m ih =>
    obtain ⟨i, x⟩ := c
    simp only [Memory.write]
    split
    · rw [Memory.read_consCell, if_neg (Ne.symm h)]
    · split
      · subst_vars
        rw [Memory.read_consCell, if_neg (Ne.symm h), Memory.read_cons, if_neg (Ne.symm h)]
      · rw [Memory.read_cons, Memory.read_cons, ih]

/-- In a canonical array a cell reads what was last written to it. -/
theorem Memory.read_write_self {lo : Nat} {m : Memory} (h : Memory.wfFrom lo m = true) (k : Nat) (v : Byte) :
    Memory.read (Memory.write m k v) k = v := by
  induction m generalizing lo with
  | nil =>
    simp only [Memory.write, Memory.read_consCell, if_true, Memory.read_nil]
    split <;> simp_all
  | cons c m ih =>
    obtain ⟨i, x⟩ := c
    simp only [Memory.wfFrom, Bool.and_eq_true, decide_eq_true_eq] at h
    simp only [Memory.write]
    split
    · rw [Memory.read_consCell, if_pos rfl]
      split
      · rw [Memory.read_cons, if_neg (by omega), Memory.read_of_lt h.2 (by omega)]; simp_all
      · rfl
    · split
      · rw [Memory.read_consCell, if_pos rfl, Memory.read_of_lt h.2 (by omega)]
        split <;> simp_all
      · rw [Memory.read_cons, if_neg (by omega), ih h.2]

/-- The law of one array: a cell reads what was last written to it, every other cell as before. -/
theorem Memory.read_write {m : Memory} (h : Memory.wf m = true) (j k : Nat) (v : Byte) :
    Memory.read (Memory.write m j v) k = if k = j then v else Memory.read m k := by
  split
  · subst_vars; exact Memory.read_write_self h _ _
  · exact Memory.read_write_ne m v ‹_›

/-! ## The canonical form -/

theorem Memory.wfFrom_consCell {lo j : Nat} {v : Byte} {m : Memory} (hj : lo ≤ j)
    (h : Memory.wfFrom (j + 1) m = true) : Memory.wfFrom lo (Memory.consCell j v m) = true := by
  unfold Memory.consCell
  split
  · exact Memory.wfFrom_mono h (by omega)
  · simp [Memory.wfFrom, *]

theorem Memory.wfFrom_write {lo k : Nat} {m : Memory} (h : Memory.wfFrom lo m = true) (hk : lo ≤ k) (v : Byte) :
    Memory.wfFrom lo (Memory.write m k v) = true := by
  induction m generalizing lo with
  | nil => exact Memory.wfFrom_consCell hk rfl
  | cons c m ih =>
    obtain ⟨i, x⟩ := c
    have h' := h
    simp only [Memory.wfFrom, Bool.and_eq_true, decide_eq_true_eq] at h
    simp only [Memory.write]
    split
    · refine Memory.wfFrom_consCell hk ?_
      simp only [Memory.wfFrom, Bool.and_eq_true, decide_eq_true_eq]
      exact ⟨⟨by omega, h.1.2⟩, h.2⟩
    · split
      · exact Memory.wfFrom_consCell hk (Memory.wfFrom_mono h.2 (by omega))
      · simp only [Memory.wfFrom, Bool.and_eq_true, decide_eq_true_eq]
        exact ⟨h.1, ih h.2 (by omega)⟩

/-- A write keeps the canonical form. -/
theorem Memory.wf_write {m : Memory} (h : Memory.wf m = true) (k : Nat) (v : Byte) :
    Memory.wf (Memory.write m k v) = true := Memory.wfFrom_write h (Nat.zero_le _) v

theorem Memory.below_consCell {size j : Nat} {v : Byte} {m : Memory} (hj : j < size) (h : Memory.below size m = true) :
    Memory.below size (Memory.consCell j v m) = true := by
  unfold Memory.consCell
  split
  · exact h
  · simp only [Memory.below, List.all_cons, Bool.and_eq_true, decide_eq_true_eq]
    exact ⟨hj, h⟩

/-- A write within the size keeps the size. -/
theorem Memory.below_write {size k : Nat} {m : Memory} (h : Memory.below size m = true) (hk : k < size) (v : Byte) :
    Memory.below size (Memory.write m k v) = true := by
  induction m with
  | nil => exact Memory.below_consCell hk h
  | cons c m ih =>
    obtain ⟨i, x⟩ := c
    have h' := h
    simp only [Memory.below, List.all_cons, Bool.and_eq_true, decide_eq_true_eq] at h
    simp only [Memory.write]
    split
    · exact Memory.below_consCell hk h'
    · split
      · exact Memory.below_consCell hk h.2
      · simp only [Memory.below, List.all_cons, Bool.and_eq_true, decide_eq_true_eq]
        exact ⟨h.1, ih h.2⟩

theorem Memory.good_iff {size : Nat} {m : Memory} :
    Memory.good size m = true ↔ Memory.wf m = true ∧ Memory.below size m = true := by
  simp [Memory.good]

/-- A write within the size keeps an array good. -/
theorem Memory.good_write {size k : Nat} {m : Memory} (h : Memory.good size m = true) (hk : k < size) (v : Byte) :
    Memory.good size (Memory.write m k v) = true :=
  Memory.good_iff.2 ⟨Memory.wf_write (Memory.good_iff.1 h).1 _ _, Memory.below_write (Memory.good_iff.1 h).2 hk _⟩

/-! ## Runs of bytes -/

theorem Memory.wfFrom_ofBytes {lo base : Nat} (h : lo ≤ base) (bs : List Byte) :
    Memory.wfFrom lo (Memory.ofBytes base bs) = true := by
  induction bs generalizing lo base with
  | nil => rfl
  | cons v bs ih => exact Memory.wfFrom_consCell h (ih (Nat.le_refl _))

theorem Memory.below_ofBytes {size base : Nat} (bs : List Byte) (h : base + bs.length ≤ size) :
    Memory.below size (Memory.ofBytes base bs) = true := by
  induction bs generalizing base with
  | nil => rfl
  | cons v bs ih =>
    simp only [List.length_cons] at h
    exact Memory.below_consCell (by omega) (ih (by omega))

/-- The image of a run of bytes is canonical and within its length. -/
theorem Memory.good_ofBytes (bs : List Byte) : Memory.good bs.length (Memory.ofBytes 0 bs) = true :=
  Memory.good_iff.2 ⟨Memory.wfFrom_ofBytes (Nat.le_refl _) bs, Memory.below_ofBytes bs (by omega)⟩

/-- A run of bytes reads as the bytes, and as nothing around them. -/
theorem Memory.read_ofBytes (base : Nat) (bs : List Byte) (k : Nat) :
    Memory.read (Memory.ofBytes base bs) k = if h : base ≤ k ∧ k - base < bs.length then bs[k - base] else 0x00#8 := by
  induction bs generalizing base with
  | nil => simp [Memory.ofBytes]
  | cons v bs ih =>
    rw [Memory.ofBytes, Memory.read_consCell, ih]
    by_cases hk : base = k
    · subst hk
      have hlt : ¬(base + 1 ≤ base ∧ base - (base + 1) < bs.length) := by omega
      simp only [if_true, dif_neg hlt, Nat.le_refl, Nat.sub_self, List.length_cons, Nat.zero_lt_succ, and_self, dite_true,
        List.getElem_cons_zero]
      split <;> simp_all
    · rw [if_neg hk]
      by_cases hin : base + 1 ≤ k ∧ k - (base + 1) < bs.length
      · have hin' : base ≤ k ∧ k - base < (v :: bs).length := by simp only [List.length_cons]; omega
        rw [dif_pos hin, dif_pos hin']
        have : k - base = (k - (base + 1)) + 1 := by omega
        simp [this]
      · have hin' : ¬(base ≤ k ∧ k - base < (v :: bs).length) := by simp only [List.length_cons]; omega
        rw [dif_neg hin, dif_neg hin']

theorem Memory.wfFrom_filter {lo : Nat} {m : Memory} (h : Memory.wfFrom lo m = true) (p : Host.Cell → Bool) :
    Memory.wfFrom lo (m.filter p) = true := by
  induction m generalizing lo with
  | nil => rfl
  | cons c m ih =>
    obtain ⟨i, x⟩ := c
    simp only [Memory.wfFrom, Bool.and_eq_true, decide_eq_true_eq] at h
    simp only [List.filter_cons]
    split
    · simp only [Memory.wfFrom, Bool.and_eq_true, decide_eq_true_eq]
      exact ⟨h.1, ih h.2⟩
    · exact Memory.wfFrom_mono (ih h.2) (by omega)

theorem Memory.wfFrom_append {lo mid : Nat} {m m' : Memory} (h : Memory.wfFrom lo m = true)
    (hb : Memory.below mid m = true) (hle : lo ≤ mid) (h' : Memory.wfFrom mid m' = true) :
    Memory.wfFrom lo (m ++ m') = true := by
  induction m generalizing lo with
  | nil => exact Memory.wfFrom_mono h' hle
  | cons c m ih =>
    obtain ⟨i, x⟩ := c
    simp only [Memory.wfFrom, Bool.and_eq_true, decide_eq_true_eq] at h
    simp only [Memory.below, List.all_cons, Bool.and_eq_true, decide_eq_true_eq] at hb
    simp only [List.cons_append, Memory.wfFrom, Bool.and_eq_true, decide_eq_true_eq]
    exact ⟨h.1, ih h.2 hb.2 (by omega)⟩

theorem Memory.wfFrom_of_ge {lo lo' : Nat} {m : Memory} (h : Memory.wfFrom lo m = true)
    (hge : m.all (fun c => decide (lo' ≤ c.1)) = true) : Memory.wfFrom lo' m = true := by
  cases m with
  | nil => rfl
  | cons c m =>
    simp only [Memory.wfFrom, Bool.and_eq_true, decide_eq_true_eq] at h ⊢
    simp only [List.all_cons, Bool.and_eq_true, decide_eq_true_eq] at hge
    exact ⟨⟨hge.1, h.1.2⟩, h.2⟩

theorem Memory.below_filter_lt (m : Memory) (base : Nat) :
    Memory.below base (m.filter (fun c => c.1 < base)) = true := by
  simp [Memory.below]

theorem Memory.below_mono {size size' : Nat} {m : Memory} (h : Memory.below size m = true) (hle : size ≤ size') :
    Memory.below size' m = true := by
  simp only [Memory.below, List.all_eq_true, decide_eq_true_eq] at h ⊢
  intro c hc
  exact Nat.lt_of_lt_of_le (h c hc) hle

theorem Memory.below_append {size : Nat} {m m' : Memory} (h : Memory.below size m = true)
    (h' : Memory.below size m' = true) : Memory.below size (m ++ m') = true := by
  simp only [Memory.below, List.all_append, Bool.and_eq_true]
  exact ⟨h, h'⟩

theorem Memory.below_filter {size : Nat} {m : Memory} (h : Memory.below size m = true) (p : Host.Cell → Bool) :
    Memory.below size (m.filter p) = true := by
  simp only [Memory.below, List.all_eq_true, decide_eq_true_eq] at h ⊢
  intro c hc
  exact h c (List.mem_filter.1 hc).1

/-- Writing a run of bytes within the size keeps an array good. -/
theorem Memory.good_writeBlock {size : Nat} {m : Memory} (h : Memory.good size m = true) (base : Nat) (bs : List Byte)
    (hb : base + bs.length ≤ size) : Memory.good size (Memory.writeBlock m base bs) = true := by
  obtain ⟨hw, hs⟩ := Memory.good_iff.1 h
  refine Memory.good_iff.2 ⟨?_, ?_⟩
  · unfold Memory.writeBlock
    refine Memory.wfFrom_append (mid := base + bs.length) ?_ ?_ (Nat.zero_le _) ?_
    · exact Memory.wfFrom_append (Memory.wfFrom_filter hw _) (Memory.below_filter_lt m base) (Nat.zero_le _)
        (Memory.wfFrom_ofBytes (Nat.le_refl _) bs)
    · exact Memory.below_append (Memory.below_mono (Memory.below_filter_lt m base) (by omega))
        (Memory.below_ofBytes bs (by omega))
    · exact Memory.wfFrom_of_ge (Memory.wfFrom_filter hw _) (by simp)
  · unfold Memory.writeBlock
    exact Memory.below_append (Memory.below_append (Memory.below_filter hs _) (Memory.below_ofBytes bs hb))
      (Memory.below_filter hs _)

theorem Memory.read_append (m m' : Memory) (k : Nat) :
    Memory.read (m ++ m') k = if m.any (fun c => c.1 == k) then Memory.read m k else Memory.read m' k := by
  induction m with
  | nil => simp
  | cons c m ih =>
    obtain ⟨i, x⟩ := c
    simp only [List.cons_append, Memory.read_cons, ih, List.any_cons]
    by_cases h : i = k <;> simp [h]

theorem Memory.read_of_not_any {m : Memory} {k : Nat} (h : m.any (fun c => c.1 == k) = false) :
    Memory.read m k = 0x00#8 := by
  induction m with
  | nil => rfl
  | cons c m ih =>
    obtain ⟨i, x⟩ := c
    simp only [List.any_cons, Bool.or_eq_false_iff, beq_eq_false_iff_ne, ne_eq] at h
    rw [Memory.read_cons, if_neg h.1, ih h.2]

theorem Memory.read_append_left {m m' : Memory} {k : Nat} (h : Memory.read m' k = 0x00#8) :
    Memory.read (m ++ m') k = Memory.read m k := by
  rw [Memory.read_append]
  split
  · rfl
  · rename_i hn
    rw [h, Memory.read_of_not_any (by rwa [Bool.not_eq_true] at hn)]

theorem Memory.read_append_right {m m' : Memory} {k : Nat} (h : m.any (fun c => c.1 == k) = false) :
    Memory.read (m ++ m') k = Memory.read m' k := by
  rw [Memory.read_append, h]; rfl

theorem Memory.read_filter (m : Memory) (p : Nat → Bool) (k : Nat) :
    Memory.read (m.filter (fun c => p c.1)) k = if p k then Memory.read m k else 0x00#8 := by
  induction m with
  | nil => simp
  | cons c m ih =>
    obtain ⟨i, x⟩ := c
    simp only [List.filter_cons]
    by_cases hp : p i <;> by_cases hk : i = k <;> simp_all [Memory.read_cons]

theorem Memory.any_filter_false {m : Memory} {p : Nat → Bool} {k : Nat} (h : p k = false) :
    (m.filter (fun c => p c.1)).any (fun c => c.1 == k) = false := by
  simp only [List.any_eq_false, List.mem_filter, beq_iff_eq]
  rintro c ⟨-, hp⟩ rfl
  simp [h] at hp

theorem Memory.any_ofBytes_false {base : Nat} {bs : List Byte} {k : Nat} (h : k < base ∨ base + bs.length ≤ k) :
    (Memory.ofBytes base bs).any (fun c => c.1 == k) = false := by
  induction bs generalizing base with
  | nil => rfl
  | cons v bs ih =>
    simp only [List.length_cons] at h
    unfold Memory.ofBytes Memory.consCell
    split
    · exact ih (by omega)
    · simp only [List.any_cons, ih (base := base + 1) (by omega), Bool.or_false, beq_eq_false_iff_ne]
      omega

/-- After a run of bytes is written, the run reads as the bytes and every other cell as before. -/
theorem Memory.read_writeBlock (m : Memory) (base : Nat) (bs : List Byte) (k : Nat) :
    Memory.read (Memory.writeBlock m base bs) k =
      if h : base ≤ k ∧ k - base < bs.length then bs[k - base] else Memory.read m k := by
  unfold Memory.writeBlock
  by_cases h1 : k < base
  · rw [dif_neg (by omega), List.append_assoc, Memory.read_append_left, Memory.read_filter m (fun j => decide (j < base))]
    · simp [h1]
    · rw [Memory.read_append_right (Memory.any_ofBytes_false (Or.inl h1)),
        Memory.read_filter m (fun j => decide (base + bs.length ≤ j))]
      simp; omega
  · rw [List.append_assoc, Memory.read_append_right
      (Memory.any_filter_false (p := fun j => decide (j < base)) (by simpa using h1))]
    by_cases h2 : k < base + bs.length
    · rw [dif_pos (by omega), Memory.read_append_left, Memory.read_ofBytes, dif_pos (by omega)]
      rw [Memory.read_filter m (fun j => decide (base + bs.length ≤ j))]
      simp; omega
    · rw [dif_neg (by omega), Memory.read_append_right (Memory.any_ofBytes_false (Or.inr (by omega))),
        Memory.read_filter m (fun j => decide (base + bs.length ≤ j))]
      simp; omega

end Sys2Proof.Machine
end

