-- ==== Sys2Proof/Laws/State.lean ====
section
/-! SUPPORT. One lemma per field of `State` per update, so that no later proof unfolds a record update. -/
namespace Sys2Proof.Machine

variable (s : State)

/-! ### `setReg` -/

@[simp] theorem State.setReg_regs (r : Reg8) (v : Byte) : (s.setReg r v).regs = s.regs.set r v := rfl
@[simp] theorem State.setReg_flags (r : Reg8) (v : Byte) : (s.setReg r v).flags = s.flags := rfl
@[simp] theorem State.setReg_sp (r : Reg8) (v : Byte) : (s.setReg r v).sp = s.sp := rfl
@[simp] theorem State.setReg_pc (r : Reg8) (v : Byte) : (s.setReg r v).pc = s.pc := rfl
@[simp] theorem State.setReg_ime (r : Reg8) (v : Byte) : (s.setReg r v).ime = s.ime := rfl
@[simp] theorem State.setReg_eiPending (r : Reg8) (v : Byte) : (s.setReg r v).eiPending = s.eiPending := rfl
@[simp] theorem State.setReg_run (r : Reg8) (v : Byte) : (s.setReg r v).run = s.run := rfl
@[simp] theorem State.setReg_fault (r : Reg8) (v : Byte) : (s.setReg r v).fault = s.fault := rfl
@[simp] theorem State.setReg_bootActive (r : Reg8) (v : Byte) : (s.setReg r v).bootActive = s.bootActive := rfl
@[simp] theorem State.setReg_bank (r : Reg8) (v : Byte) : (s.setReg r v).bank = s.bank := rfl
@[simp] theorem State.setReg_mem (r : Reg8) (v : Byte) : (s.setReg r v).mem = s.mem := rfl
@[simp] theorem State.setReg_ie (r : Reg8) (v : Byte) : (s.setReg r v).ie = s.ie := rfl
@[simp] theorem State.setReg_clkTotal (r : Reg8) (v : Byte) : (s.setReg r v).clkTotal = s.clkTotal := rfl
@[simp] theorem State.setReg_clkMode (r : Reg8) (v : Byte) : (s.setReg r v).clkMode = s.clkMode := rfl
@[simp] theorem State.setReg_ppuMode (r : Reg8) (v : Byte) : (s.setReg r v).ppuMode = s.ppuMode := rfl
@[simp] theorem State.setReg_cart (r : Reg8) (v : Byte) : (s.setReg r v).cart = s.cart := rfl
@[simp] theorem State.setReg_boot (r : Reg8) (v : Byte) : (s.setReg r v).boot = s.boot := rfl
@[simp] theorem State.setReg_cfg (r : Reg8) (v : Byte) : (s.setReg r v).cfg = s.cfg := rfl

/-! ### `setFlags` -/

@[simp] theorem State.setFlags_regs (f : Flags) : (s.setFlags f).regs = s.regs := rfl
@[simp] theorem State.setFlags_flags (f : Flags) : (s.setFlags f).flags = f := rfl
@[simp] theorem State.setFlags_sp (f : Flags) : (s.setFlags f).sp = s.sp := rfl
@[simp] theorem State.setFlags_pc (f : Flags) : (s.setFlags f).pc = s.pc := rfl
@[simp] theorem State.setFlags_ime (f : Flags) : (s.setFlags f).ime = s.ime := rfl
@[simp] theorem State.setFlags_eiPending (f : Flags) : (s.setFlags f).eiPending = s.eiPending := rfl
@[simp] theorem State.setFlags_run (f : Flags) : (s.setFlags f).run = s.run := rfl
@[simp] theorem State.setFlags_fault (f : Flags) : (s.setFlags f).fault = s.fault := rfl
@[simp] theorem State.setFlags_bootActive (f : Flags) : (s.setFlags f).bootActive = s.bootActive := rfl
@[simp] theorem State.setFlags_bank (f : Flags) : (s.setFlags f).bank = s.bank := rfl
@[simp] theorem State.setFlags_mem (f : Flags) : (s.setFlags f).mem = s.mem := rfl
@[simp] theorem State.setFlags_ie (f : Flags) : (s.setFlags f).ie = s.ie := rfl
@[simp] theorem State.setFlags_clkTotal (f : Flags) : (s.setFlags f).clkTotal = s.clkTotal := rfl
@[simp] theorem State.setFlags_clkMode (f : Flags) : (s.setFlags f).clkMode = s.clkMode := rfl
@[simp] theorem State.setFlags_ppuMode (f : Flags) : (s.setFlags f).ppuMode = s.ppuMode := rfl
@[simp] theorem State.setFlags_cart (f : Flags) : (s.setFlags f).cart = s.cart := rfl
@[simp] theorem State.setFlags_boot (f : Flags) : (s.setFlags f).boot = s.boot := rfl
@[simp] theorem State.setFlags_cfg (f : Flags) : (s.setFlags f).cfg = s.cfg := rfl

/-! ### `setSp` -/

@[simp] theorem State.setSp_regs (v : Word) : (s.setSp v).regs = s.regs := rfl
@[simp] theorem State.setSp_flags (v : Word) : (s.setSp v).flags = s.flags := rfl
@[simp] theorem State.setSp_sp (v : Word) : (s.setSp v).sp = v := rfl
@[simp] theorem State.setSp_pc (v : Word) : (s.setSp v).pc = s.pc := rfl
@[simp] theorem State.setSp_ime (v : Word) : (s.setSp v).ime = s.ime := rfl
@[simp] theorem State.setSp_eiPending (v : Word) : (s.setSp v).eiPending = s.eiPending := rfl
@[simp] theorem State.setSp_run (v : Word) : (s.setSp v).run = s.run := rfl
@[simp] theorem State.setSp_fault (v : Word) : (s.setSp v).fault = s.fault := rfl
@[simp] theorem State.setSp_bootActive (v : Word) : (s.setSp v).bootActive = s.bootActive := rfl
@[simp] theorem State.setSp_bank (v : Word) : (s.setSp v).bank = s.bank := rfl
@[simp] theorem State.setSp_mem (v : Word) : (s.setSp v).mem = s.mem := rfl
@[simp] theorem State.setSp_ie (v : Word) : (s.setSp v).ie = s.ie := rfl
@[simp] theorem State.setSp_clkTotal (v : Word) : (s.setSp v).clkTotal = s.clkTotal := rfl
@[simp] theorem State.setSp_clkMode (v : Word) : (s.setSp v).clkMode = s.clkMode := rfl
@[simp] theorem State.setSp_ppuMode (v : Word) : (s.setSp v).ppuMode = s.ppuMode := rfl
@[simp] theorem State.setSp_cart (v : Word) : (s.setSp v).cart = s.cart := rfl
@[simp] theorem State.setSp_boot (v : Word) : (s.setSp v).boot = s.boot := rfl
@[simp] theorem State.setSp_cfg (v : Word) : (s.setSp v).cfg = s.cfg := rfl

/-! ### `advance` -/

@[simp] theorem State.advance_regs (n : Nat) : (s.advance n).regs = s.regs := rfl
@[simp] theorem State.advance_flags (n : Nat) : (s.advance n).flags = s.flags := rfl
@[simp] theorem State.advance_sp (n : Nat) : (s.advance n).sp = s.sp := rfl
@[simp] theorem State.advance_pc (n : Nat) : (s.advance n).pc = s.pc := rfl
@[simp] theorem State.advance_ime (n : Nat) : (s.advance n).ime = s.ime := rfl
@[simp] theorem State.advance_eiPending (n : Nat) : (s.advance n).eiPending = s.eiPending := rfl
@[simp] theorem State.advance_run (n : Nat) : (s.advance n).run = s.run := rfl
@[simp] theorem State.advance_fault (n : Nat) : (s.advance n).fault = s.fault := rfl
@[simp] theorem State.advance_bootActive (n : Nat) : (s.advance n).bootActive = s.bootActive := rfl
@[simp] theorem State.advance_bank (n : Nat) : (s.advance n).bank = s.bank := rfl
@[simp] theorem State.advance_mem (n : Nat) : (s.advance n).mem = s.mem := rfl
@[simp] theorem State.advance_ie (n : Nat) : (s.advance n).ie = s.ie := rfl
@[simp] theorem State.advance_clkTotal (n : Nat) : (s.advance n).clkTotal = s.clkTotal + n := rfl
@[simp] theorem State.advance_clkMode (n : Nat) : (s.advance n).clkMode = s.clkMode := rfl
@[simp] theorem State.advance_ppuMode (n : Nat) : (s.advance n).ppuMode = s.ppuMode := rfl
@[simp] theorem State.advance_cart (n : Nat) : (s.advance n).cart = s.cart := rfl
@[simp] theorem State.advance_boot (n : Nat) : (s.advance n).boot = s.boot := rfl
@[simp] theorem State.advance_cfg (n : Nat) : (s.advance n).cfg = s.cfg := rfl

/-! ### `finish` -/

@[simp] theorem State.finish_regs (len n : Nat) : (s.finish len n).regs = s.regs := rfl
@[simp] theorem State.finish_flags (len n : Nat) : (s.finish len n).flags = s.flags := rfl
@[simp] theorem State.finish_sp (len n : Nat) : (s.finish len n).sp = s.sp := rfl
@[simp] theorem State.finish_pc (len n : Nat) : (s.finish len n).pc = s.pc + BitVec.ofNat 16 len := rfl
@[simp] theorem State.finish_ime (len n : Nat) : (s.finish len n).ime = s.ime := rfl
@[simp] theorem State.finish_eiPending (len n : Nat) : (s.finish len n).eiPending = s.eiPending := rfl
@[simp] theorem State.finish_run (len n : Nat) : (s.finish len n).run = s.run := rfl
@[simp] theorem State.finish_fault (len n : Nat) : (s.finish len n).fault = s.fault := rfl
@[simp] theorem State.finish_bootActive (len n : Nat) : (s.finish len n).bootActive = s.bootActive := rfl
@[simp] theorem State.finish_bank (len n : Nat) : (s.finish len n).bank = s.bank := rfl
@[simp] theorem State.finish_mem (len n : Nat) : (s.finish len n).mem = s.mem := rfl
@[simp] theorem State.finish_ie (len n : Nat) : (s.finish len n).ie = s.ie := rfl
@[simp] theorem State.finish_clkTotal (len n : Nat) : (s.finish len n).clkTotal = s.clkTotal + n := rfl
@[simp] theorem State.finish_clkMode (len n : Nat) : (s.finish len n).clkMode = s.clkMode := rfl
@[simp] theorem State.finish_ppuMode (len n : Nat) : (s.finish len n).ppuMode = s.ppuMode := rfl
@[simp] theorem State.finish_cart (len n : Nat) : (s.finish len n).cart = s.cart := rfl
@[simp] theorem State.finish_boot (len n : Nat) : (s.finish len n).boot = s.boot := rfl
@[simp] theorem State.finish_cfg (len n : Nat) : (s.finish len n).cfg = s.cfg := rfl

/-! ### `jump` -/

@[simp] theorem State.jump_regs (t : Word) (n : Nat) : (s.jump t n).regs = s.regs := rfl
@[simp] theorem State.jump_flags (t : Word) (n : Nat) : (s.jump t n).flags = s.flags := rfl
@[simp] theorem State.jump_sp (t : Word) (n : Nat) : (s.jump t n).sp = s.sp := rfl
@[simp] theorem State.jump_pc (t : Word) (n : Nat) : (s.jump t n).pc = t := rfl
@[simp] theorem State.jump_ime (t : Word) (n : Nat) : (s.jump t n).ime = s.ime := rfl
@[simp] theorem State.jump_eiPending (t : Word) (n : Nat) : (s.jump t n).eiPending = s.eiPending := rfl
@[simp] theorem State.jump_run (t : Word) (n : Nat) : (s.jump t n).run = s.run := rfl
@[simp] theorem State.jump_fault (t : Word) (n : Nat) : (s.jump t n).fault = s.fault := rfl
@[simp] theorem State.jump_bootActive (t : Word) (n : Nat) : (s.jump t n).bootActive = s.bootActive := rfl
@[simp] theorem State.jump_bank (t : Word) (n : Nat) : (s.jump t n).bank = s.bank := rfl
@[simp] theorem State.jump_mem (t : Word) (n : Nat) : (s.jump t n).mem = s.mem := rfl
@[simp] theorem State.jump_ie (t : Word) (n : Nat) : (s.jump t n).ie = s.ie := rfl
@[simp] theorem State.jump_clkTotal (t : Word) (n : Nat) : (s.jump t n).clkTotal = s.clkTotal + n := rfl
@[simp] theorem State.jump_clkMode (t : Word) (n : Nat) : (s.jump t n).clkMode = s.clkMode := rfl
@[simp] theorem State.jump_ppuMode (t : Word) (n : Nat) : (s.jump t n).ppuMode = s.ppuMode := rfl
@[simp] theorem State.jump_cart (t : Word) (n : Nat) : (s.jump t n).cart = s.cart := rfl
@[simp] theorem State.jump_boot (t : Word) (n : Nat) : (s.jump t n).boot = s.boot := rfl
@[simp] theorem State.jump_cfg (t : Word) (n : Nat) : (s.jump t n).cfg = s.cfg := rfl

/-! ### `raise` -/

@[simp] theorem State.raise_regs (f : Fault) : (s.raise f).regs = s.regs := rfl
@[simp] theorem State.raise_flags (f : Fault) : (s.raise f).flags = s.flags := rfl
@[simp] theorem State.raise_sp (f : Fault) : (s.raise f).sp = s.sp := rfl
@[simp] theorem State.raise_pc (f : Fault) : (s.raise f).pc = s.pc := rfl
@[simp] theorem State.raise_ime (f : Fault) : (s.raise f).ime = s.ime := rfl
@[simp] theorem State.raise_eiPending (f : Fault) : (s.raise f).eiPending = s.eiPending := rfl
@[simp] theorem State.raise_run (f : Fault) : (s.raise f).run = s.run := rfl
@[simp] theorem State.raise_fault (f : Fault) : (s.raise f).fault = some f := rfl
@[simp] theorem State.raise_bootActive (f : Fault) : (s.raise f).bootActive = s.bootActive := rfl
@[simp] theorem State.raise_bank (f : Fault) : (s.raise f).bank = s.bank := rfl
@[simp] theorem State.raise_mem (f : Fault) : (s.raise f).mem = s.mem := rfl
@[simp] theorem State.raise_ie (f : Fault) : (s.raise f).ie = s.ie := rfl
@[simp] theorem State.raise_clkTotal (f : Fault) : (s.raise f).clkTotal = s.clkTotal := rfl
@[simp] theorem State.raise_clkMode (f : Fault) : (s.raise f).clkMode = s.clkMode := rfl
@[simp] theorem State.raise_ppuMode (f : Fault) : (s.raise f).ppuMode = s.ppuMode := rfl
@[simp] theorem State.raise_cart (f : Fault) : (s.raise f).cart = s.cart := rfl
@[simp] theorem State.raise_boot (f : Fault) : (s.raise f).boot = s.boot := rfl
@[simp] theorem State.raise_cfg (f : Fault) : (s.raise f).cfg = s.cfg := rfl

/-! ### `store` -/

@[simp] theorem State.store_regs (n : ArrayName) (k : Nat) (v : Byte) : (s.store n k v).regs = s.regs := rfl
@[simp] theorem State.store_flags (n : ArrayName) (k : Nat) (v : Byte) : (s.store n k v).flags = s.flags := rfl
@[simp] theorem State.store_sp (n : ArrayName) (k : Nat) (v : Byte) : (s.store n k v).sp = s.sp := rfl
@[simp] theorem State.store_pc (n : ArrayName) (k : Nat) (v : Byte) : (s.store n k v).pc = s.pc := rfl
@[simp] theorem State.store_ime (n : ArrayName) (k : Nat) (v : Byte) : (s.store n k v).ime = s.ime := rfl
@[simp] theorem State.store_eiPending (n : ArrayName) (k : Nat) (v : Byte) : (s.store n k v).eiPending = s.eiPending := rfl
@[simp] theorem State.store_run (n : ArrayName) (k : Nat) (v : Byte) : (s.store n k v).run = s.run := rfl
@[simp] theorem State.store_fault (n : ArrayName) (k : Nat) (v : Byte) : (s.store n k v).fault = s.fault := rfl
@[simp] theorem State.store_bootActive (n : ArrayName) (k : Nat) (v : Byte) : (s.store n k v).bootActive = s.bootActive := rfl
@[simp] theorem State.store_bank (n : ArrayName) (k : Nat) (v : Byte) : (s.store n k v).bank = s.bank := rfl
@[simp] theorem State.store_mem (n : ArrayName) (k : Nat) (v : Byte) : (s.store n k v).mem = s.mem.set n ((s.mem.get n).write k v) := rfl
@[simp] theorem State.store_ie (n : ArrayName) (k : Nat) (v : Byte) : (s.store n k v).ie = s.ie := rfl
@[simp] theorem State.store_clkTotal (n : ArrayName) (k : Nat) (v : Byte) : (s.store n k v).clkTotal = s.clkTotal := rfl
@[simp] theorem State.store_clkMode (n : ArrayName) (k : Nat) (v : Byte) : (s.store n k v).clkMode = s.clkMode := rfl
@[simp] theorem State.store_ppuMode (n : ArrayName) (k : Nat) (v : Byte) : (s.store n k v).ppuMode = s.ppuMode := rfl
@[simp] theorem State.store_cart (n : ArrayName) (k : Nat) (v : Byte) : (s.store n k v).cart = s.cart := rfl
@[simp] theorem State.store_boot (n : ArrayName) (k : Nat) (v : Byte) : (s.store n k v).boot = s.boot := rfl
@[simp] theorem State.store_cfg (n : ArrayName) (k : Nat) (v : Byte) : (s.store n k v).cfg = s.cfg := rfl

/-! ### `setBC` -/

@[simp] theorem State.setBC_regs (v : Word) : (s.setBC v).regs = { s.regs with b := hiByte v, c := loByte v } := rfl
@[simp] theorem State.setBC_flags (v : Word) : (s.setBC v).flags = s.flags := rfl
@[simp] theorem State.setBC_sp (v : Word) : (s.setBC v).sp = s.sp := rfl
@[simp] theorem State.setBC_pc (v : Word) : (s.setBC v).pc = s.pc := rfl
@[simp] theorem State.setBC_ime (v : Word) : (s.setBC v).ime = s.ime := rfl
@[simp] theorem State.setBC_eiPending (v : Word) : (s.setBC v).eiPending = s.eiPending := rfl
@[simp] theorem State.setBC_run (v : Word) : (s.setBC v).run = s.run := rfl
@[simp] theorem State.setBC_fault (v : Word) : (s.setBC v).fault = s.fault := rfl
@[simp] theorem State.setBC_bootActive (v : Word) : (s.setBC v).bootActive = s.bootActive := rfl
@[simp] theorem State.setBC_bank (v : Word) : (s.setBC v).bank = s.bank := rfl
@[simp] theorem State.setBC_mem (v : Word) : (s.setBC v).mem = s.mem := rfl
@[simp] theorem State.setBC_ie (v : Word) : (s.setBC v).ie = s.ie := rfl
@[simp] theorem State.setBC_clkTotal (v : Word) : (s.setBC v).clkTotal = s.clkTotal := rfl
@[simp] theorem State.setBC_clkMode (v : Word) : (s.setBC v).clkMode = s.clkMode := rfl
@[simp] theorem State.setBC_ppuMode (v : Word) : (s.setBC v).ppuMode = s.ppuMode := rfl
@[simp] theorem State.setBC_cart (v : Word) : (s.setBC v).cart = s.cart := rfl
@[simp] theorem State.setBC_boot (v : Word) : (s.setBC v).boot = s.boot := rfl
@[simp] theorem State.setBC_cfg (v : Word) : (s.setBC v).cfg = s.cfg := rfl

/-! ### `setDE` -/

@[simp] theorem State.setDE_regs (v : Word) : (s.setDE v).regs = { s.regs with d := hiByte v, e := loByte v } := rfl
@[simp] theorem State.setDE_flags (v : Word) : (s.setDE v).flags = s.flags := rfl
@[simp] theorem State.setDE_sp (v : Word) : (s.setDE v).sp = s.sp := rfl
@[simp] theorem State.setDE_pc (v : Word) : (s.setDE v).pc = s.pc := rfl
@[simp] theorem State.setDE_ime (v : Word) : (s.setDE v).ime = s.ime := rfl
@[simp] theorem State.setDE_eiPending (v : Word) : (s.setDE v).eiPending = s.eiPending := rfl
@[simp] theorem State.setDE_run (v : Word) : (s.setDE v).run = s.run := rfl
@[simp] theorem State.setDE_fault (v : Word) : (s.setDE v).fault = s.fault := rfl
@[simp] theorem State.setDE_bootActive (v : Word) : (s.setDE v).bootActive = s.bootActive := rfl
@[simp] theorem State.setDE_bank (v : Word) : (s.setDE v).bank = s.bank := rfl
@[simp] theorem State.setDE_mem (v : Word) : (s.setDE v).mem = s.mem := rfl
@[simp] theorem State.setDE_ie (v : Word) : (s.setDE v).ie = s.ie := rfl
@[simp] theorem State.setDE_clkTotal (v : Word) : (s.setDE v).clkTotal = s.clkTotal := rfl
@[simp] theorem State.setDE_clkMode (v : Word) : (s.setDE v).clkMode = s.clkMode := rfl
@[simp] theorem State.setDE_ppuMode (v : Word) : (s.setDE v).ppuMode = s.ppuMode := rfl
@[simp] theorem State.setDE_cart (v : Word) : (s.setDE v).cart = s.cart := rfl
@[simp] theorem State.setDE_boot (v : Word) : (s.setDE v).boot = s.boot := rfl
@[simp] theorem State.setDE_cfg (v : Word) : (s.setDE v).cfg = s.cfg := rfl

/-! ### `setHL` -/

@[simp] theorem State.setHL_regs (v : Word) : (s.setHL v).regs = { s.regs with h := hiByte v, l := loByte v } := rfl
@[simp] theorem State.setHL_flags (v : Word) : (s.setHL v).flags = s.flags := rfl
@[simp] theorem State.setHL_sp (v : Word) : (s.setHL v).sp = s.sp := rfl
@[simp] theorem State.setHL_pc (v : Word) : (s.setHL v).pc = s.pc := rfl
@[simp] theorem State.setHL_ime (v : Word) : (s.setHL v).ime = s.ime := rfl
@[simp] theorem State.setHL_eiPending (v : Word) : (s.setHL v).eiPending = s.eiPending := rfl
@[simp] theorem State.setHL_run (v : Word) : (s.setHL v).run = s.run := rfl
@[simp] theorem State.setHL_fault (v : Word) : (s.setHL v).fault = s.fault := rfl
@[simp] theorem State.setHL_bootActive (v : Word) : (s.setHL v).bootActive = s.bootActive := rfl
@[simp] theorem State.setHL_bank (v : Word) : (s.setHL v).bank = s.bank := rfl
@[simp] theorem State.setHL_mem (v : Word) : (s.setHL v).mem = s.mem := rfl
@[simp] theorem State.setHL_ie (v : Word) : (s.setHL v).ie = s.ie := rfl
@[simp] theorem State.setHL_clkTotal (v : Word) : (s.setHL v).clkTotal = s.clkTotal := rfl
@[simp] theorem State.setHL_clkMode (v : Word) : (s.setHL v).clkMode = s.clkMode := rfl
@[simp] theorem State.setHL_ppuMode (v : Word) : (s.setHL v).ppuMode = s.ppuMode := rfl
@[simp] theorem State.setHL_cart (v : Word) : (s.setHL v).cart = s.cart := rfl
@[simp] theorem State.setHL_boot (v : Word) : (s.setHL v).boot = s.boot := rfl
@[simp] theorem State.setHL_cfg (v : Word) : (s.setHL v).cfg = s.cfg := rfl

/-! ### `setAF` -/

@[simp] theorem State.setAF_regs (v : Word) : (s.setAF v).regs = { s.regs with a := hiByte v } := rfl
@[simp] theorem State.setAF_flags (v : Word) : (s.setAF v).flags = Flags.unpack (loByte v) := rfl
@[simp] theorem State.setAF_sp (v : Word) : (s.setAF v).sp = s.sp := rfl
@[simp] theorem State.setAF_pc (v : Word) : (s.setAF v).pc = s.pc := rfl
@[simp] theorem State.setAF_ime (v : Word) : (s.setAF v).ime = s.ime := rfl
@[simp] theorem State.setAF_eiPending (v : Word) : (s.setAF v).eiPending = s.eiPending := rfl
@[simp] theorem State.setAF_run (v : Word) : (s.setAF v).run = s.run := rfl
@[simp] theorem State.setAF_fault (v : Word) : (s.setAF v).fault = s.fault := rfl
@[simp] theorem State.setAF_bootActive (v : Word) : (s.setAF v).bootActive = s.bootActive := rfl
@[simp] theorem State.setAF_bank (v : Word) : (s.setAF v).bank = s.bank := rfl
@[simp] theorem State.setAF_mem (v : Word) : (s.setAF v).mem = s.mem := rfl
@[simp] theorem State.setAF_ie (v : Word) : (s.setAF v).ie = s.ie := rfl
@[simp] theorem State.setAF_clkTotal (v : Word) : (s.setAF v).clkTotal = s.clkTotal := rfl
@[simp] theorem State.setAF_clkMode (v : Word) : (s.setAF v).clkMode = s.clkMode := rfl
@[simp] theorem State.setAF_ppuMode (v : Word) : (s.setAF v).ppuMode = s.ppuMode := rfl
@[simp] theorem State.setAF_cart (v : Word) : (s.setAF v).cart = s.cart := rfl
@[simp] theorem State.setAF_boot (v : Word) : (s.setAF v).boot = s.boot := rfl
@[simp] theorem State.setAF_cfg (v : Word) : (s.setAF v).cfg = s.cfg := rfl

/-! ### `frameBoundary` -/

@[simp] theorem State.frameBoundary_regs : (s.frameBoundary).regs = s.regs := rfl
@[simp] theorem State.frameBoundary_flags : (s.frameBoundary).flags = s.flags := rfl
@[simp] theorem State.frameBoundary_sp : (s.frameBoundary).sp = s.sp := rfl
@[simp] theorem State.frameBoundary_pc : (s.frameBoundary).pc = s.pc := rfl
@[simp] theorem State.frameBoundary_ime : (s.frameBoundary).ime = s.ime := rfl
@[simp] theorem State.frameBoundary_eiPending : (s.frameBoundary).eiPending = s.eiPending := rfl
@[simp] theorem State.frameBoundary_run : (s.frameBoundary).run = s.run := rfl
@[simp] theorem State.frameBoundary_fault : (s.frameBoundary).fault = s.fault := rfl
@[simp] theorem State.frameBoundary_bootActive : (s.frameBoundary).bootActive = s.bootActive := rfl
@[simp] theorem State.frameBoundary_bank : (s.frameBoundary).bank = s.bank := rfl
@[simp] theorem State.frameBoundary_mem : (s.frameBoundary).mem = s.mem := rfl
@[simp] theorem State.frameBoundary_ie : (s.frameBoundary).ie = s.ie := rfl
@[simp] theorem State.frameBoundary_clkTotal : (s.frameBoundary).clkTotal = s.clkTotal % frameCycles := rfl
@[simp] theorem State.frameBoundary_clkMode : (s.frameBoundary).clkMode = s.clkMode % frameCycles := rfl
@[simp] theorem State.frameBoundary_ppuMode : (s.frameBoundary).ppuMode = s.ppuMode := rfl
@[simp] theorem State.frameBoundary_cart : (s.frameBoundary).cart = s.cart := rfl
@[simp] theorem State.frameBoundary_boot : (s.frameBoundary).boot = s.boot := rfl
@[simp] theorem State.frameBoundary_cfg : (s.frameBoundary).cfg = s.cfg := rfl

/-! ### `setPair` -/

@[simp] theorem State.setPair_flags (rr : Pair) (v : Word) : (s.setPair rr v).flags = s.flags := by cases rr <;> rfl
@[simp] theorem State.setPair_pc (rr : Pair) (v : Word) : (s.setPair rr v).pc = s.pc := by cases rr <;> rfl
@[simp] theorem State.setPair_ime (rr : Pair) (v : Word) : (s.setPair rr v).ime = s.ime := by cases rr <;> rfl
@[simp] theorem State.setPair_eiPending (rr : Pair) (v : Word) : (s.setPair rr v).eiPending = s.eiPending := by cases rr <;> rfl
@[simp] theorem State.setPair_run (rr : Pair) (v : Word) : (s.setPair rr v).run = s.run := by cases rr <;> rfl
@[simp] theorem State.setPair_fault (rr : Pair) (v : Word) : (s.setPair rr v).fault = s.fault := by cases rr <;> rfl
@[simp] theorem State.setPair_bootActive (rr : Pair) (v : Word) : (s.setPair rr v).bootActive = s.bootActive := by cases rr <;> rfl
@[simp] theorem State.setPair_bank (rr : Pair) (v : Word) : (s.setPair rr v).bank = s.bank := by cases rr <;> rfl
@[simp] theorem State.setPair_mem (rr : Pair) (v : Word) : (s.setPair rr v).mem = s.mem := by cases rr <;> rfl
@[simp] theorem State.setPair_ie (rr : Pair) (v : Word) : (s.setPair rr v).ie = s.ie := by cases rr <;> rfl
@[simp] theorem State.setPair_clkTotal (rr : Pair) (v : Word) : (s.setPair rr v).clkTotal = s.clkTotal := by cases rr <;> rfl
@[simp] theorem State.setPair_clkMode (rr : Pair) (v : Word) : (s.setPair rr v).clkMode = s.clkMode := by cases rr <;> rfl
@[simp] theorem State.setPair_ppuMode (rr : Pair) (v : Word) : (s.setPair rr v).ppuMode = s.ppuMode := by cases rr <;> rfl
@[simp] theorem State.setPair_cart (rr : Pair) (v : Word) : (s.setPair rr v).cart = s.cart := by cases rr <;> rfl
@[simp] theorem State.setPair_boot (rr : Pair) (v : Word) : (s.setPair rr v).boot = s.boot := by cases rr <;> rfl
@[simp] theorem State.setPair_cfg (rr : Pair) (v : Word) : (s.setPair rr v).cfg = s.cfg := by cases rr <;> rfl

/-! ### `setStackPair` -/

@[simp] theorem State.setStackPair_sp (qq : StackPair) (v : Word) : (s.setStackPair qq v).sp = s.sp := by cases qq <;> rfl
@[simp] theorem State.setStackPair_pc (qq : StackPair) (v : Word) : (s.setStackPair qq v).pc = s.pc := by cases qq <;> rfl
@[simp] theorem State.setStackPair_ime (qq : StackPair) (v : Word) : (s.setStackPair qq v).ime = s.ime := by cases qq <;> rfl
@[simp] theorem State.setStackPair_eiPending (qq : StackPair) (v : Word) : (s.setStackPair qq v).eiPending = s.eiPending := by cases qq <;> rfl
@[simp] theorem State.setStackPair_run (qq : StackPair) (v : Word) : (s.setStackPair qq v).run = s.run := by cases qq <;> rfl
@[simp] theorem State.setStackPair_fault (qq : StackPair) (v : Word) : (s.setStackPair qq v).fault = s.fault := by cases qq <;> rfl
@[simp] theorem State.setStackPair_bootActive (qq : StackPair) (v : Word) : (s.setStackPair qq v).bootActive = s.bootActive := by cases qq <;> rfl
@[simp] theorem State.setStackPair_bank (qq : StackPair) (v : Word) : (s.setStackPair qq v).bank = s.bank := by cases qq <;> rfl
@[simp] theorem State.setStackPair_mem (qq : StackPair) (v : Word) : (s.setStackPair qq v).mem = s.mem := by cases qq <;> rfl
@[simp] theorem State.setStackPair_ie (qq : StackPair) (v : Word) : (s.setStackPair qq v).ie = s.ie := by cases qq <;> rfl
@[simp] theorem State.setStackPair_clkTotal (qq : StackPair) (v : Word) : (s.setStackPair qq v).clkTotal = s.clkTotal := by cases qq <;> rfl
@[simp] theorem State.setStackPair_clkMode (qq : StackPair) (v : Word) : (s.setStackPair qq v).clkMode = s.clkMode := by cases qq <;> rfl
@[simp] theorem State.setStackPair_ppuMode (qq : StackPair) (v : Word) : (s.setStackPair qq v).ppuMode = s.ppuMode := by cases qq <;> rfl
@[simp] theorem State.setStackPair_cart (qq : StackPair) (v : Word) : (s.setStackPair qq v).cart = s.cart := by cases qq <;> rfl
@[simp] theorem State.setStackPair_boot (qq : StackPair) (v : Word) : (s.setStackPair qq v).boot = s.boot := by cases qq <;> rfl
@[simp] theorem State.setStackPair_cfg (qq : StackPair) (v : Word) : (s.setStackPair qq v).cfg = s.cfg := by cases qq <;> rfl

/-! ### `applyAlu` -/

@[simp] theorem State.applyAlu_sp (op : AluOp) (b : Byte) : (s.applyAlu op b).sp = s.sp := by cases op <;> rfl
@[simp] theorem State.applyAlu_pc (op : AluOp) (b : Byte) : (s.applyAlu op b).pc = s.pc := by cases op <;> rfl
@[simp] theorem State.applyAlu_ime (op : AluOp) (b : Byte) : (s.applyAlu op b).ime = s.ime := by cases op <;> rfl
@[simp] theorem State.applyAlu_eiPending (op : AluOp) (b : Byte) : (s.applyAlu op b).eiPending = s.eiPending := by cases op <;> rfl
@[simp] theorem State.applyAlu_run (op : AluOp) (b : Byte) : (s.applyAlu op b).run = s.run := by cases op <;> rfl
@[simp] theorem State.applyAlu_fault (op : AluOp) (b : Byte) : (s.applyAlu op b).fault = s.fault := by cases op <;> rfl
@[simp] theorem State.applyAlu_bootActive (op : AluOp) (b : Byte) : (s.applyAlu op b).bootActive = s.bootActive := by cases op <;> rfl
@[simp] theorem State.applyAlu_bank (op : AluOp) (b : Byte) : (s.applyAlu op b).bank = s.bank := by cases op <;> rfl
@[simp] theorem State.applyAlu_mem (op : AluOp) (b : Byte) : (s.applyAlu op b).mem = s.mem := by cases op <;> rfl
@[simp] theorem State.applyAlu_ie (op : AluOp) (b : Byte) : (s.applyAlu op b).ie = s.ie := by cases op <;> rfl
@[simp] theorem State.applyAlu_clkTotal (op : AluOp) (b : Byte) : (s.applyAlu op b).clkTotal = s.clkTotal := by cases op <;> rfl
@[simp] theorem State.applyAlu_clkMode (op : AluOp) (b : Byte) : (s.applyAlu op b).clkMode = s.clkMode := by cases op <;> rfl
@[simp] theorem State.applyAlu_ppuMode (op : AluOp) (b : Byte) : (s.applyAlu op b).ppuMode = s.ppuMode := by cases op <;> rfl
@[simp] theorem State.applyAlu_cart (op : AluOp) (b : Byte) : (s.applyAlu op b).cart = s.cart := by cases op <;> rfl
@[simp] theorem State.applyAlu_boot (op : AluOp) (b : Byte) : (s.applyAlu op b).boot = s.boot := by cases op <;> rfl
@[simp] theorem State.applyAlu_cfg (op : AluOp) (b : Byte) : (s.applyAlu op b).cfg = s.cfg := by cases op <;> rfl

/-! ### `afterRead` -/

@[simp] theorem State.afterRead_regs (a : Word) : (s.afterRead a).regs = s.regs := by unfold State.afterRead; split <;> rfl
@[simp] theorem State.afterRead_flags (a : Word) : (s.afterRead a).flags = s.flags := by unfold State.afterRead; split <;> rfl
@[simp] theorem State.afterRead_sp (a : Word) : (s.afterRead a).sp = s.sp := by unfold State.afterRead; split <;> rfl
@[simp] theorem State.afterRead_pc (a : Word) : (s.afterRead a).pc = s.pc := by unfold State.afterRead; split <;> rfl
@[simp] theorem State.afterRead_ime (a : Word) : (s.afterRead a).ime = s.ime := by unfold State.afterRead; split <;> rfl
@[simp] theorem State.afterRead_eiPending (a : Word) : (s.afterRead a).eiPending = s.eiPending := by unfold State.afterRead; split <;> rfl
@[simp] theorem State.afterRead_run (a : Word) : (s.afterRead a).run = s.run := by unfold State.afterRead; split <;> rfl
@[simp] theorem State.afterRead_fault (a : Word) : (s.afterRead a).fault = s.fault := by unfold State.afterRead; split <;> rfl
@[simp] theorem State.afterRead_bank (a : Word) : (s.afterRead a).bank = s.bank := by unfold State.afterRead; split <;> rfl
@[simp] theorem State.afterRead_mem (a : Word) : (s.afterRead a).mem = s.mem := by unfold State.afterRead; split <;> rfl
@[simp] theorem State.afterRead_ie (a : Word) : (s.afterRead a).ie = s.ie := by unfold State.afterRead; split <;> rfl
@[simp] theorem State.afterRead_clkTotal (a : Word) : (s.afterRead a).clkTotal = s.clkTotal := by unfold State.afterRead; split <;> rfl
@[simp] theorem State.afterRead_clkMode (a : Word) : (s.afterRead a).clkMode = s.clkMode := by unfold State.afterRead; split <;> rfl
@[simp] theorem State.afterRead_ppuMode (a : Word) : (s.afterRead a).ppuMode = s.ppuMode := by unfold State.afterRead; split <;> rfl
@[simp] theorem State.afterRead_cart (a : Word) : (s.afterRead a).cart = s.cart := by unfold State.afterRead; split <;> rfl
@[simp] theorem State.afterRead_boot (a : Word) : (s.afterRead a).boot = s.boot := by unfold State.afterRead; split <;> rfl
@[simp] theorem State.afterRead_cfg (a : Word) : (s.afterRead a).cfg = s.cfg := by unfold State.afterRead; split <;> rfl

/-! ### `bankWrite` -/

@[simp] theorem State.bankWrite_regs (a : Word) (v : Byte) : (s.bankWrite a v).regs = s.regs := by unfold State.bankWrite; split <;> rfl
@[simp] theorem State.bankWrite_flags (a : Word) (v : Byte) : (s.bankWrite a v).flags = s.flags := by unfold State.bankWrite; split <;> rfl
@[simp] theorem State.bankWrite_sp (a : Word) (v : Byte) : (s.bankWrite a v).sp = s.sp := by unfold State.bankWrite; split <;> rfl
@[simp] theorem State.bankWrite_pc (a : Word) (v : Byte) : (s.bankWrite a v).pc = s.pc := by unfold State.bankWrite; split <;> rfl
@[simp] theorem State.bankWrite_ime (a : Word) (v : Byte) : (s.bankWrite a v).ime = s.ime := by unfold State.bankWrite; split <;> rfl
@[simp] theorem State.bankWrite_eiPending (a : Word) (v : Byte) : (s.bankWrite a v).eiPending = s.eiPending := by unfold State.bankWrite; split <;> rfl
@[simp] theorem State.bankWrite_run (a : Word) (v : Byte) : (s.bankWrite a v).run = s.run := by unfold State.bankWrite; split <;> rfl
@[simp] theorem State.bankWrite_fault (a : Word) (v : Byte) : (s.bankWrite a v).fault = s.fault := by unfold State.bankWrite; split <;> rfl
@[simp] theorem State.bankWrite_bootActive (a : Word) (v : Byte) : (s.bankWrite a v).bootActive = s.bootActive := by unfold State.bankWrite; split <;> rfl
@[simp] theorem State.bankWrite_mem (a : Word) (v : Byte) : (s.bankWrite a v).mem = s.mem := by unfold State.bankWrite; split <;> rfl
@[simp] theorem State.bankWrite_ie (a : Word) (v : Byte) : (s.bankWrite a v).ie = s.ie := by unfold State.bankWrite; split <;> rfl
@[simp] theorem State.bankWrite_clkTotal (a : Word) (v : Byte) : (s.bankWrite a v).clkTotal = s.clkTotal := by unfold State.bankWrite; split <;> rfl
@[simp] theorem State.bankWrite_clkMode (a : Word) (v : Byte) : (s.bankWrite a v).clkMode = s.clkMode := by unfold State.bankWrite; split <;> rfl
@[simp] theorem State.bankWrite_ppuMode (a : Word) (v : Byte) : (s.bankWrite a v).ppuMode = s.ppuMode := by unfold State.bankWrite; split <;> rfl
@[simp] theorem State.bankWrite_cart (a : Word) (v : Byte) : (s.bankWrite a v).cart = s.cart := by unfold State.bankWrite; split <;> rfl
@[simp] theorem State.bankWrite_boot (a : Word) (v : Byte) : (s.bankWrite a v).boot = s.boot := by unfold State.bankWrite; split <;> rfl
@[simp] theorem State.bankWrite_cfg (a : Word) (v : Byte) : (s.bankWrite a v).cfg = s.cfg := by unfold State.bankWrite; split <;> rfl

/-! ### `ioWrite` -/

@[simp] theorem State.ioWrite_regs (off : Nat) (v : Byte) : (s.ioWrite off v).regs = s.regs := by unfold State.ioWrite; (repeat' split) <;> rfl
@[simp] theorem State.ioWrite_flags (off : Nat) (v : Byte) : (s.ioWrite off v).flags = s.flags := by unfold State.ioWrite; (repeat' split) <;> rfl
@[simp] theorem State.ioWrite_sp (off : Nat) (v : Byte) : (s.ioWrite off v).sp = s.sp := by unfold State.ioWrite; (repeat' split) <;> rfl
@[simp] theorem State.ioWrite_pc (off : Nat) (v : Byte) : (s.ioWrite off v).pc = s.pc := by unfold State.ioWrite; (repeat' split) <;> rfl
@[simp] theorem State.ioWrite_ime (off : Nat) (v : Byte) : (s.ioWrite off v).ime = s.ime := by unfold State.ioWrite; (repeat' split) <;> rfl
@[simp] theorem State.ioWrite_eiPending (off : Nat) (v : Byte) : (s.ioWrite off v).eiPending = s.eiPending := by unfold State.ioWrite; (repeat' split) <;> rfl
@[simp] theorem State.ioWrite_run (off : Nat) (v : Byte) : (s.ioWrite off v).run = s.run := by unfold State.ioWrite; (repeat' split) <;> rfl
@[simp] theorem State.ioWrite_fault (off : Nat) (v : Byte) : (s.ioWrite off v).fault = s.fault := by unfold State.ioWrite; (repeat' split) <;> rfl
@[simp] theorem State.ioWrite_bank (off : Nat) (v : Byte) : (s.ioWrite off v).bank = s.bank := by unfold State.ioWrite; (repeat' split) <;> rfl
@[simp] theorem State.ioWrite_ie (off : Nat) (v : Byte) : (s.ioWrite off v).ie = s.ie := by unfold State.ioWrite; (repeat' split) <;> rfl
@[simp] theorem State.ioWrite_clkTotal (off : Nat) (v : Byte) : (s.ioWrite off v).clkTotal = s.clkTotal := by unfold State.ioWrite; (repeat' split) <;> rfl
@[simp] theorem State.ioWrite_clkMode (off : Nat) (v : Byte) : (s.ioWrite off v).clkMode = s.clkMode := by unfold State.ioWrite; (repeat' split) <;> rfl
@[simp] theorem State.ioWrite_ppuMode (off : Nat) (v : Byte) : (s.ioWrite off v).ppuMode = s.ppuMode := by unfold State.ioWrite; (repeat' split) <;> rfl
@[simp] theorem State.ioWrite_cart (off : Nat) (v : Byte) : (s.ioWrite off v).cart = s.cart := by unfold State.ioWrite; (repeat' split) <;> rfl
@[simp] theorem State.ioWrite_boot (off : Nat) (v : Byte) : (s.ioWrite off v).boot = s.boot := by unfold State.ioWrite; (repeat' split) <;> rfl
@[simp] theorem State.ioWrite_cfg (off : Nat) (v : Byte) : (s.ioWrite off v).cfg = s.cfg := by unfold State.ioWrite; (repeat' split) <;> rfl

/-! ### `busWrite` -/

@[simp] theorem State.busWrite_regs (a : Word) (v : Byte) : (s.busWrite a v).regs = s.regs := by
  unfold State.busWrite; cases regionOf a with
  | xram off => cases h : s.xramCell off <;> simp [h]
  | _ => simp
@[simp] theorem State.busWrite_flags (a : Word) (v : Byte) : (s.busWrite a v).flags = s.flags := by
  unfold State.busWrite; cases regionOf a with
  | xram off => cases h : s.xramCell off <;> simp [h]
  | _ => simp
@[simp] theorem State.busWrite_sp (a : Word) (v : Byte) : (s.busWrite a v).sp = s.sp := by
  unfold State.busWrite; cases regionOf a with
  | xram off => cases h : s.xramCell off <;> simp [h]
  | _ => simp
@[simp] theorem State.busWrite_pc (a : Word) (v : Byte) : (s.busWrite a v).pc = s.pc := by
  unfold State.busWrite; cases regionOf a with
  | xram off => cases h : s.xramCell off <;> simp [h]
  | _ => simp
@[simp] theorem State.busWrite_ime (a : Word) (v : Byte) : (s.busWrite a v).ime = s.ime := by
  unfold State.busWrite; cases regionOf a with
  | xram off => cases h : s.xramCell off <;> simp [h]
  | _ => simp
@[simp] theorem State.busWrite_eiPending (a : Word) (v : Byte) : (s.busWrite a v).eiPending = s.eiPending := by
  unfold State.busWrite; cases regionOf a with
  | xram off => cases h : s.xramCell off <;> simp [h]
  | _ => simp
@[simp] theorem State.busWrite_run (a : Word) (v : Byte) : (s.busWrite a v).run = s.run := by
  unfold State.busWrite; cases regionOf a with
  | xram off => cases h : s.xramCell off <;> simp [h]
  | _ => simp
@[simp] theorem State.busWrite_fault (a : Word) (v : Byte) : (s.busWrite a v).fault = s.fault := by
  unfold State.busWrite; cases regionOf a with
  | xram off => cases h : s.xramCell off <;> simp [h]
  | _ => simp
@[simp] theorem State.busWrite_clkTotal (a : Word) (v : Byte) : (s.busWrite a v).clkTotal = s.clkTotal := by
  unfold State.busWrite; cases regionOf a with
  | xram off => cases h : s.xramCell off <;> simp [h]
  | _ => simp
@[simp] theorem State.busWrite_clkMode (a : Word) (v : Byte) : (s.busWrite a v).clkMode = s.clkMode := by
  unfold State.busWrite; cases regionOf a with
  | xram off => cases h : s.xramCell off <;> simp [h]
  | _ => simp
@[simp] theorem State.busWrite_ppuMode (a : Word) (v : Byte) : (s.busWrite a v).ppuMode = s.ppuMode := by
  unfold State.busWrite; cases regionOf a with
  | xram off => cases h : s.xramCell off <;> simp [h]
  | _ => simp
@[simp] theorem State.busWrite_cart (a : Word) (v : Byte) : (s.busWrite a v).cart = s.cart := by
  unfold State.busWrite; cases regionOf a with
  | xram off => cases h : s.xramCell off <;> simp [h]
  | _ => simp
@[simp] theorem State.busWrite_boot (a : Word) (v : Byte) : (s.busWrite a v).boot = s.boot := by
  unfold State.busWrite; cases regionOf a with
  | xram off => cases h : s.xramCell off <;> simp [h]
  | _ => simp
@[simp] theorem State.busWrite_cfg (a : Word) (v : Byte) : (s.busWrite a v).cfg = s.cfg := by
  unfold State.busWrite; cases regionOf a with
  | xram off => cases h : s.xramCell off <;> simp [h]
  | _ => simp

/-! ### `exitHalt` -/

@[simp] theorem State.exitHalt_regs : (s.exitHalt).regs = s.regs := by unfold State.exitHalt; split <;> rfl
@[simp] theorem State.exitHalt_flags : (s.exitHalt).flags = s.flags := by unfold State.exitHalt; split <;> rfl
@[simp] theorem State.exitHalt_sp : (s.exitHalt).sp = s.sp := by unfold State.exitHalt; split <;> rfl
@[simp] theorem State.exitHalt_pc : (s.exitHalt).pc = s.pc := by unfold State.exitHalt; split <;> rfl
@[simp] theorem State.exitHalt_ime : (s.exitHalt).ime = s.ime := by unfold State.exitHalt; split <;> rfl
@[simp] theorem State.exitHalt_eiPending : (s.exitHalt).eiPending = s.eiPending := by unfold State.exitHalt; split <;> rfl
@[simp] theorem State.exitHalt_fault : (s.exitHalt).fault = s.fault := by unfold State.exitHalt; split <;> rfl
@[simp] theorem State.exitHalt_bootActive : (s.exitHalt).bootActive = s.bootActive := by unfold State.exitHalt; split <;> rfl
@[simp] theorem State.exitHalt_bank : (s.exitHalt).bank = s.bank := by unfold State.exitHalt; split <;> rfl
@[simp] theorem State.exitHalt_mem : (s.exitHalt).mem = s.mem := by unfold State.exitHalt; split <;> rfl
@[simp] theorem State.exitHalt_ie : (s.exitHalt).ie = s.ie := by unfold State.exitHalt; split <;> rfl
@[simp] theorem State.exitHalt_clkMode : (s.exitHalt).clkMode = s.clkMode := by unfold State.exitHalt; split <;> rfl
@[simp] theorem State.exitHalt_ppuMode : (s.exitHalt).ppuMode = s.ppuMode := by unfold State.exitHalt; split <;> rfl
@[simp] theorem State.exitHalt_cart : (s.exitHalt).cart = s.cart := by unfold State.exitHalt; split <;> rfl
@[simp] theorem State.exitHalt_boot : (s.exitHalt).boot = s.boot := by unfold State.exitHalt; split <;> rfl
@[simp] theorem State.exitHalt_cfg : (s.exitHalt).cfg = s.cfg := by unfold State.exitHalt; split <;> rfl

/-! ### `endEiDelay` -/

@[simp] theorem State.endEiDelay_regs (w : Bool) : (s.endEiDelay w).regs = s.regs := by unfold State.endEiDelay; split <;> rfl
@[simp] theorem State.endEiDelay_flags (w : Bool) : (s.endEiDelay w).flags = s.flags := by unfold State.endEiDelay; split <;> rfl
@[simp] theorem State.endEiDelay_sp (w : Bool) : (s.endEiDelay w).sp = s.sp := by unfold State.endEiDelay; split <;> rfl
@[simp] theorem State.endEiDelay_pc (w : Bool) : (s.endEiDelay w).pc = s.pc := by unfold State.endEiDelay; split <;> rfl
@[simp] theorem State.endEiDelay_run (w : Bool) : (s.endEiDelay w).run = s.run := by unfold State.endEiDelay; split <;> rfl
@[simp] theorem State.endEiDelay_fault (w : Bool) : (s.endEiDelay w).fault = s.fault := by unfold State.endEiDelay; split <;> rfl
@[simp] theorem State.endEiDelay_bootActive (w : Bool) : (s.endEiDelay w).bootActive = s.bootActive := by unfold State.endEiDelay; split <;> rfl
@[simp] theorem State.endEiDelay_bank (w : Bool) : (s.endEiDelay w).bank = s.bank := by unfold State.endEiDelay; split <;> rfl
@[simp] theorem State.endEiDelay_mem (w : Bool) : (s.endEiDelay w).mem = s.mem := by unfold State.endEiDelay; split <;> rfl
@[simp] theorem State.endEiDelay_ie (w : Bool) : (s.endEiDelay w).ie = s.ie := by unfold State.endEiDelay; split <;> rfl
@[simp] theorem State.endEiDelay_clkTotal (w : Bool) : (s.endEiDelay w).clkTotal = s.clkTotal := by unfold State.endEiDelay; split <;> rfl
@[simp] theorem State.endEiDelay_clkMode (w : Bool) : (s.endEiDelay w).clkMode = s.clkMode := by unfold State.endEiDelay; split <;> rfl
@[simp] theorem State.endEiDelay_ppuMode (w : Bool) : (s.endEiDelay w).ppuMode = s.ppuMode := by unfold State.endEiDelay; split <;> rfl
@[simp] theorem State.endEiDelay_cart (w : Bool) : (s.endEiDelay w).cart = s.cart := by unfold State.endEiDelay; split <;> rfl
@[simp] theorem State.endEiDelay_boot (w : Bool) : (s.endEiDelay w).boot = s.boot := by unfold State.endEiDelay; split <;> rfl
@[simp] theorem State.endEiDelay_cfg (w : Bool) : (s.endEiDelay w).cfg = s.cfg := by unfold State.endEiDelay; split <;> rfl

end Sys2Proof.Machine
end

