-- ==== Sys2Proof/Laws/Words.lean ====
section
/-! SUPPORT. The laws of bytes and words: a word is its two bytes. -/
namespace Sys2Proof

theorem wordOf_toNat (hi lo : Byte) : (wordOf hi lo).toNat = hi.toNat * 0x100 + lo.toNat := by
  unfold wordOf
  rw [BitVec.toNat_append, Nat.shiftLeft_eq, ← Nat.shiftLeft_eq, ← Nat.shiftLeft_add_eq_or_of_lt lo.isLt, Nat.shiftLeft_eq]

theorem hiByte_toNat (v : Word) : (hiByte v).toNat = v.toNat / 0x100 := by
  simp only [hiByte, BitVec.extractLsb'_toNat, Nat.shiftRight_eq_div_pow]
  have := v.isLt
  omega

theorem loByte_toNat (v : Word) : (loByte v).toNat = v.toNat % 0x100 := by
  simp [loByte, BitVec.extractLsb'_toNat]

@[simp] theorem wordOf_hi_lo (v : Word) : wordOf (hiByte v) (loByte v) = v := by
  apply BitVec.eq_of_toNat_eq
  rw [wordOf_toNat, hiByte_toNat, loByte_toNat]
  omega

/-- Clearing the low nibble of the low byte clears that of the word. -/
theorem wordOf_hi_lo_and (v : Word) : wordOf (hiByte v) (loByte v &&& 0xF0#8) = v &&& 0xFFF0#16 := by
  have h : ((hiByte v ++ loByte v) &&& (0xFF#8 ++ 0xF0#8) : BitVec (8 + 8)) = hiByte v ++ (loByte v &&& 0xF0#8) := by
    rw [BitVec.and_append]
    congr 1
    generalize hiByte v = b; revert b; decide +kernel
  have e : (hiByte v ++ loByte v : BitVec (8 + 8)) = v := wordOf_hi_lo v
  rw [e] at h
  exact h.symm

@[simp] theorem hiByte_wordOf (hi lo : Byte) : hiByte (wordOf hi lo) = hi := by
  apply BitVec.eq_of_toNat_eq
  rw [hiByte_toNat, wordOf_toNat]
  have := lo.isLt
  omega

@[simp] theorem loByte_wordOf (hi lo : Byte) : loByte (wordOf hi lo) = lo := by
  apply BitVec.eq_of_toNat_eq
  rw [loByte_toNat, wordOf_toNat]
  have := lo.isLt
  omega

/-- `highPage a8` is `0xFF00 + a8`. -/
theorem Machine.highPage_eq (a8 : Byte) : Machine.highPage a8 = 0xFF00#16 + a8.setWidth 16 := by
  apply BitVec.eq_of_toNat_eq
  have := a8.isLt
  simp only [Machine.highPage, wordOf_toNat, BitVec.toNat_add, BitVec.toNat_ofNat, BitVec.toNat_setWidth]
  omega

/-- `sext_16(v)` as an integer. -/
theorem Machine.add_sext16 (a : Word) (e8 : Byte) :
    a + Machine.sext16 e8 = BitVec.ofInt 16 ((a.toNat : Int) + e8.toInt) := by
  apply BitVec.eq_of_toNat_eq
  have h1 := a.isLt
  have h2 := e8.isLt
  simp only [Machine.sext16, BitVec.toNat_add, BitVec.toNat_ofInt, BitVec.toNat_signExtend, BitVec.toInt_eq_msb_cond,
    BitVec.toNat_setWidth]
  split <;> simp_all <;> omega

end Sys2Proof
end

