-- ==== Sys2Proof/Laws/Bus.lean ====
section
/-! SUPPORT. The laws of the bus: what a read and a write can do. -/
namespace Sys2Proof.Machine

variable (s : State)

/-! ## Regions -/

/-- What a region says of the address it is the region of: the range, and the bounds of the offset. -/
def Region.Holds (n : Nat) : Region → Prop
  | .rom00 => n ≤ 0x3FFF
  | .romNN => 0x4000 ≤ n ∧ n ≤ 0x7FFF
  | .vram off => n = 0x8000 + off ∧ off < 0x2000
  | .xram off => n = 0xA000 + off ∧ off < 0x2000
  | .wram0 off => (n = 0xC000 + off ∨ n = 0xE000 + off) ∧ off < 0x1000
  | .wramN off => (n = 0xD000 + off ∧ off < 0x1000) ∨ (n = 0xF000 + off ∧ off < 0xE00)
  | .oam off => n = 0xFE00 + off ∧ off < 0xA0
  | .unusable => 0xFEA0 ≤ n ∧ n ≤ 0xFEFF
  | .io off => n = 0xFF00 + off ∧ off < 0x80
  | .hram off => n = 0xFF80 + off ∧ off < 0x7F
  | .ie => n = 0xFFFF

theorem lowRegion_holds {n : Nat} (h : n ≤ 0xDFFF) : (lowRegion n).Holds n := by
  unfold lowRegion
  by_cases h2 : n ≤ 0x3FFF
  · rw [if_pos h2]; exact h2
  rw [if_neg h2]
  by_cases h3 : n ≤ 0x7FFF
  · rw [if_pos h3]; show _ ∧ _; omega
  rw [if_neg h3]
  by_cases h4 : n ≤ 0x9FFF
  · rw [if_pos h4]; show _ ∧ _; omega
  rw [if_neg h4]
  by_cases h5 : n ≤ 0xBFFF
  · rw [if_pos h5]; show _ ∧ _; omega
  rw [if_neg h5]
  by_cases h6 : n ≤ 0xCFFF
  · rw [if_pos h6]; show _ ∧ _; omega
  rw [if_neg h6]; show _ ∨ _; omega

theorem lowRegion_echo_holds {n m : Nat} (hn : n = m + 0x2000) (h : 0xC000 ≤ m) (h' : m ≤ 0xDDFF) (r : Region)
    (hr : lowRegion m = r) : r.Holds n := by
  subst hr
  unfold lowRegion
  rw [if_neg (by omega), if_neg (by omega), if_neg (by omega), if_neg (by omega)]
  by_cases h6 : m ≤ 0xCFFF
  · rw [if_pos h6]; show _ ∧ _; omega
  rw [if_neg h6]; show _ ∨ _; omega

theorem regionOf_holds_of_eq (a : Word) (r : Region) (hr : regionOf a = r) : r.Holds a.toNat := by
  have h := a.isLt
  unfold regionOf at hr
  dsimp only at hr
  by_cases h1 : a.toNat ≤ 0xDFFF
  · rw [if_pos h1] at hr; subst hr; exact lowRegion_holds h1
  rw [if_neg h1] at hr
  by_cases h2 : a.toNat ≤ 0xFDFF
  · rw [if_pos h2] at hr; exact lowRegion_echo_holds (by omega) (by omega) (by omega) r hr
  rw [if_neg h2] at hr
  by_cases h3 : a.toNat ≤ 0xFE9F
  · rw [if_pos h3] at hr; subst hr; show _ ∧ _; omega
  rw [if_neg h3] at hr
  by_cases h4 : a.toNat ≤ 0xFEFF
  · rw [if_pos h4] at hr; subst hr; show _ ∧ _; omega
  rw [if_neg h4] at hr
  by_cases h5 : a.toNat ≤ 0xFF7F
  · rw [if_pos h5] at hr; subst hr; show _ ∧ _; omega
  rw [if_neg h5] at hr
  by_cases h6 : a.toNat ≤ 0xFFFE
  · rw [if_pos h6] at hr; subst hr; show _ ∧ _; omega
  rw [if_neg h6] at hr; subst hr; show a.toNat = 0xFFFF; omega

/-- Every address lies in the range of its region. -/
theorem regionOf_holds (a : Word) : (regionOf a).Holds a.toNat := regionOf_holds_of_eq a _ rfl

theorem regionOf_rom00 {a : Word} (h : a.toNat ≤ 0x3FFF) : regionOf a = .rom00 := by
  simp only [regionOf, lowRegion]; rw [if_pos (by omega), if_pos h]

theorem regionOf_romNN {a : Word} (h : 0x4000 ≤ a.toNat) (h' : a.toNat ≤ 0x7FFF) : regionOf a = .romNN := by
  simp only [regionOf, lowRegion]; rw [if_pos (by omega), if_neg (by omega), if_pos h']

theorem regionOf_vram {a : Word} (h : 0x8000 ≤ a.toNat) (h' : a.toNat ≤ 0x9FFF) :
    regionOf a = .vram (a.toNat - 0x8000) := by
  simp only [regionOf, lowRegion]; rw [if_pos (by omega), if_neg (by omega), if_neg (by omega), if_pos h']

theorem regionOf_xram {a : Word} (h : 0xA000 ≤ a.toNat) (h' : a.toNat ≤ 0xBFFF) :
    regionOf a = .xram (a.toNat - 0xA000) := by
  simp only [regionOf, lowRegion]
  rw [if_pos (by omega), if_neg (by omega), if_neg (by omega), if_neg (by omega), if_pos h']

theorem regionOf_wram0 {a : Word} (h : 0xC000 ≤ a.toNat) (h' : a.toNat ≤ 0xCFFF) :
    regionOf a = .wram0 (a.toNat - 0xC000) := by
  simp only [regionOf, lowRegion]
  rw [if_pos (by omega), if_neg (by omega), if_neg (by omega), if_neg (by omega), if_neg (by omega), if_pos h']

theorem regionOf_wramN {a : Word} (h : 0xD000 ≤ a.toNat) (h' : a.toNat ≤ 0xDFFF) :
    regionOf a = .wramN (a.toNat - 0xD000) := by
  simp only [regionOf, lowRegion]
  rw [if_pos h', if_neg (by omega), if_neg (by omega), if_neg (by omega), if_neg (by omega), if_neg (by omega)]

theorem regionOf_echo {a : Word} (h : 0xE000 ≤ a.toNat) (h' : a.toNat ≤ 0xFDFF) :
    regionOf a = regionOf (a - 0x2000#16) := by
  have ha : (a - 0x2000#16).toNat = a.toNat - 0x2000 := by
    simp only [BitVec.toNat_sub, BitVec.toNat_ofNat]; omega
  simp only [regionOf, ha]
  rw [if_neg (by omega), if_pos h', if_pos (by omega)]

theorem regionOf_oam {a : Word} (h : 0xFE00 ≤ a.toNat) (h' : a.toNat ≤ 0xFE9F) :
    regionOf a = .oam (a.toNat - 0xFE00) := by
  simp only [regionOf]; rw [if_neg (by omega), if_neg (by omega), if_pos h']

theorem regionOf_unusable {a : Word} (h : 0xFEA0 ≤ a.toNat) (h' : a.toNat ≤ 0xFEFF) : regionOf a = .unusable := by
  simp only [regionOf]; rw [if_neg (by omega), if_neg (by omega), if_neg (by omega), if_pos h']

theorem regionOf_io {a : Word} (h : 0xFF00 ≤ a.toNat) (h' : a.toNat ≤ 0xFF7F) :
    regionOf a = .io (a.toNat - 0xFF00) := by
  simp only [regionOf]
  rw [if_neg (by omega), if_neg (by omega), if_neg (by omega), if_neg (by omega), if_pos h']

theorem regionOf_hram {a : Word} (h : 0xFF80 ≤ a.toNat) (h' : a.toNat ≤ 0xFFFE) :
    regionOf a = .hram (a.toNat - 0xFF80) := by
  simp only [regionOf]
  rw [if_neg (by omega), if_neg (by omega), if_neg (by omega), if_neg (by omega), if_neg (by omega), if_pos h']

theorem regionOf_ie {a : Word} (h : a.toNat = 0xFFFF) : regionOf a = .ie := by
  simp only [regionOf]
  rw [if_neg (by omega), if_neg (by omega), if_neg (by omega), if_neg (by omega), if_neg (by omega), if_neg (by omega)]

/-! ## Reads -/

/-- The overlay never covers 0x0100-0x01FF or what lies above 0x08FF. -/
theorem State.overlayByte_eq_none {a : Word}
    (h : (0x0100 ≤ a.toNat ∧ a.toNat ≤ 0x01FF) ∨ 0x0900 ≤ a.toNat) : s.overlayByte a = none := by
  unfold State.overlayByte inOverlay
  split
  · split
    · rename_i h'
      simp only [Bool.and_eq_true, decide_eq_true_eq] at h'
      omega
    · rfl
  · rfl

@[simp] theorem State.regionByte_afterRead (a b : Word) (r : Region) :
    (s.afterRead a).regionByte r b = s.regionByte r b := by
  unfold State.afterRead; split <;> rfl

/-- A read's side effect changes no byte that a read of another address returns, unless the overlay covered it. -/
theorem State.peek_afterRead {a b : Word}
    (h : a = 0x0100#16 → (0x0100 ≤ b.toNat ∧ b.toNat ≤ 0x01FF) ∨ 0x0900 ≤ b.toNat) :
    (s.afterRead a).peek b = s.peek b := by
  by_cases ha : a = 0x0100#16
  · unfold State.peek
    rw [State.overlayByte_eq_none _ (h ha), State.overlayByte_eq_none _ (h ha), State.regionByte_afterRead]
  · unfold State.afterRead; rw [if_neg ha]

/-- The byte that a read returns is the byte that stood there before the read's side effect. -/
@[simp] theorem State.peek_afterRead_self (a : Word) : (s.afterRead a).peek a = s.peek a :=
  s.peek_afterRead (by rintro rfl; decide)

/-- A read that finds a byte. -/
theorem State.busRead_of_peek {a : Word} {v : Byte} (h : s.peek a = some v) : s.busRead a = .ok v (s.afterRead a) := by
  simp [State.busRead, h]

/-- A read that finds none. -/
theorem State.busRead_of_peek_none {a : Word} (h : s.peek a = none) :
    s.busRead a = .raised ((s.afterRead a).raise (.addressError a.toNat)) := by
  simp [State.busRead, h]

@[simp] theorem State.afterRead_of_ne {a : Word} (h : a ≠ 0x0100#16) : s.afterRead a = s := by
  simp [State.afterRead, h]

/-- A side effect of a read as the field it may change. -/
theorem State.afterRead_eq (a : Word) :
    s.afterRead a = { s with bootActive := s.bootActive && decide (a ≠ 0x0100#16) } := by
  unfold State.afterRead
  by_cases h : a = 0x0100#16 <;> simp [h]

/-- After the first byte of a run of consecutive addresses is read, the next still reads as before. -/
theorem State.peek_afterRead_succ (a : Word) : (s.afterRead a).peek (a + 1) = s.peek (a + 1) :=
  s.peek_afterRead (by rintro rfl; decide)

theorem State.peek_afterRead_succ2 (a : Word) : (s.afterRead a).peek (a + 2) = s.peek (a + 2) :=
  s.peek_afterRead (by rintro rfl; decide)

/-! ## Cells -/

theorem Arrays.good_iff {m : Arrays} {r : Nat} :
    m.Good r ↔ ∀ n : ArrayName, Memory.good (n.size r) (m.get n) = true := by
  constructor
  · intro h n
    cases n
    · exact h.vram
    · exact h.wram
    · exact h.oam
    · exact h.io
    · exact h.wave
    · exact h.hram
    · exact h.xram
    · exact h.fb
  · intro h
    exact ⟨h .vram, h .wram, h .oam, h .io, h .wave, h .hram, h .xram, h .fb⟩

@[simp] theorem Arrays.get_set_self (m : Arrays) (n : ArrayName) (x : Memory) : (m.set n x).get n = x := by
  cases n <;> rfl

theorem Arrays.get_set_ne (m : Arrays) {n n' : ArrayName} (x : Memory) (h : n' ≠ n) : (m.set n x).get n' = m.get n' := by
  cases n <;> cases n' <;> first | rfl | exact absurd rfl h

/-- Storing within the size keeps the arrays good. -/
theorem Arrays.Good.set {m : Arrays} {r : Nat} (h : m.Good r) {n : ArrayName} {k : Nat} (hk : k < n.size r) (v : Byte) :
    (m.set n ((m.get n).write k v)).Good r := by
  rw [Arrays.good_iff] at h ⊢
  intro n'
  by_cases hn : n' = n
  · subst hn; rw [Arrays.get_set_self]; exact Memory.good_write (h _) hk v
  · rw [Arrays.get_set_ne _ _ hn]; exact h n'

/-- A store leaves every other cell. -/
theorem State.cell_store_ne {n n' : ArrayName} {k k' : Nat} (v : Byte) (h : (n', k') ≠ (n, k)) :
    (s.store n k v).cell n' k' = s.cell n' k' := by
  unfold State.cell
  rw [State.store_mem]
  by_cases hn : n' = n
  · subst hn
    rw [Arrays.get_set_self]
    exact Memory.read_write_ne _ v (fun hk => h (by rw [hk]))
  · rw [Arrays.get_set_ne _ _ hn]

/-- In good arrays a cell reads what was last stored in it. -/
theorem State.cell_store_self {r : Nat} (h : s.mem.Good r) (n : ArrayName) (k : Nat) (v : Byte) :
    (s.store n k v).cell n k = v := by
  unfold State.cell
  rw [State.store_mem, Arrays.get_set_self]
  exact Memory.read_write_self (Memory.good_iff.1 (Arrays.good_iff.1 h n)).1 k v

theorem State.io_eq_cell (i : Nat) : s.io i = s.cell .io i := rfl

/-! ## Writes -/

theorem State.wbank_pos : 1 ≤ s.wbank := by
  unfold State.wbank; split <;> (try split) <;> omega

theorem State.wbank_le : s.wbank ≤ 7 := by
  unfold State.wbank; split <;> (try split) <;> omega

theorem State.vbank_le : s.vbank ≤ 1 := by
  unfold State.vbank; split <;> omega

/-- A cell of cartridge RAM that an address reaches lies within it. -/
theorem State.xramCell_lt {off k : Nat} (h : s.xramCell off = some k) (ho : off < 0x2000) :
    k < s.cart.ramBanks * 0x2000 := by
  unfold State.xramCell at h
  split at h
  · simp at h
  · rename_i hn
    simp only [Option.map_eq_some_iff] at h
    obtain ⟨b, -, rfl⟩ := h
    have hpos : 0 < s.cart.ramBanks := by
      rcases Nat.eq_zero_or_pos s.cart.ramBanks with h0 | h0
      · exact absurd (Or.inl h0) hn
      · exact h0
    have := Nat.mod_lt b hpos
    have h2 : b % s.cart.ramBanks + 1 ≤ s.cart.ramBanks := this
    have := Nat.mul_le_mul_right 0x2000 h2
    omega

/-- The cell behind an address lies within its array, and is never a cell of the frame buffer. -/
theorem State.target_lt {a : Word} {n : ArrayName} {k : Nat} (h : s.target a = some (n, k)) :
    k < n.size s.cart.ramBanks ∧ n ≠ .fb := by
  have hr := regionOf_holds a
  unfold State.target at h
  have h1 := s.vbank_le
  have h2 := s.wbank_le
  cases hreg : regionOf a with
  | io off =>
    rw [hreg] at h hr
    simp only [Region.Holds] at hr
    simp only at h
    split at h
    · simp only [Option.some.injEq, Prod.mk.injEq] at h
      obtain ⟨rfl, rfl⟩ := h
      exact ⟨by simp only [ArrayName.size]; omega, by decide⟩
    · split at h
      · simp at h
      · simp only [Option.some.injEq, Prod.mk.injEq] at h
        obtain ⟨rfl, rfl⟩ := h
        exact ⟨by simp only [ArrayName.size]; omega, by decide⟩
  | xram off =>
    rw [hreg] at h hr
    simp only [Region.Holds] at hr
    simp only [Option.map_eq_some_iff, Prod.mk.injEq] at h
    obtain ⟨k', hk, rfl, rfl⟩ := h
    exact ⟨s.xramCell_lt hk hr.2, by decide⟩
  | _ =>
    rw [hreg] at h hr
    simp only [Region.Holds] at hr
    cases h <;> exact ⟨by simp only [ArrayName.size]; omega, by decide⟩

/-- What a bus write does to storage: nothing where no cell is behind the address, else one cell is written; the byte stored
is the byte written unless the cell is an I/O byte with a rule of its own. -/
theorem State.busWrite_mem (a : Word) (v : Byte) :
    (s.busWrite a v).mem =
      match s.target a with
      | none => s.mem
      | some (n, k) =>
        s.mem.set n ((s.mem.get n).write k
          (if n = .io ∧ k = 0x00 then (v &&& 0xF0#8) ||| (s.io 0x00 &&& 0x0F#8)
            else if n = .io ∧ k = 0x04 then 0x00#8
            else if n = .io ∧ k = 0x07 then v ||| 0xF8#8
            else if n = .io ∧ k = 0x0F then v ||| 0xE0#8
            else v)) := by
  unfold State.busWrite State.target
  cases hreg : regionOf a with
  | rom00 => simp only; unfold State.bankWrite; split <;> rfl
  | romNN => simp only; unfold State.bankWrite; split <;> rfl
  | xram off => cases h : s.xramCell off <;> simp [h]
  | io off =>
    simp only
    unfold State.ioWrite
    by_cases h0 : off = 0x00
    · subst h0; rfl
    by_cases h4 : off = 0x04
    · subst h4; rfl
    by_cases h7 : off = 0x07
    · subst h7; rfl
    by_cases hF : off = 0x0F
    · subst hF; rfl
    rw [if_neg h0, if_neg h4, if_neg h7, if_neg hF]
    by_cases hw : 0x30 ≤ off ∧ off ≤ 0x3F
    · rw [if_pos hw, if_pos hw]; simp
    rw [if_neg hw, if_neg hw]
    by_cases hb : off = 0x4F ∨ off = 0x70
    · rw [if_pos hb]
      cases hc : s.colorMode
      · simp [hb]
      · simp [hb, h0, h4, h7, hF]
    rw [if_neg hb]
    by_cases h5 : off = 0x50
    · subst h5; simp
    · simp [hb, h5, h0, h4, h7, hF]
  | _ => simp

/-- A bus write leaves every cell but the one behind its address. -/
theorem State.cell_busWrite_ne {a : Word} {v : Byte} {n : ArrayName} {k : Nat} (h : s.target a ≠ some (n, k)) :
    (s.busWrite a v).cell n k = s.cell n k := by
  have hm := s.busWrite_mem a v
  cases ht : s.target a with
  | none => rw [ht] at hm; simp only at hm; unfold State.cell; rw [hm]
  | some p =>
    obtain ⟨n', k'⟩ := p
    rw [ht] at hm h
    simp only at hm
    have := s.cell_store_ne (n := n') (k := k') (n' := n) (k' := k)
      (if n' = .io ∧ k' = 0x00 then (v &&& 0xF0#8) ||| (s.io 0x00 &&& 0x0F#8)
        else if n' = .io ∧ k' = 0x04 then 0x00#8
        else if n' = .io ∧ k' = 0x07 then v ||| 0xF8#8
        else if n' = .io ∧ k' = 0x0F then v ||| 0xE0#8
        else v) (fun e => h (by rw [e]))
    rw [← this]
    unfold State.cell
    rw [hm, State.store_mem]

/-- A bus write keeps the arrays good. -/
theorem State.busWrite_good {a : Word} {v : Byte} (h : s.mem.Good s.cart.ramBanks) :
    (s.busWrite a v).mem.Good s.cart.ramBanks := by
  rw [State.busWrite_mem]
  cases ht : s.target a with
  | none => exact h
  | some p => exact h.set (s.target_lt ht).1 _

/-- `IE` is written at 0xFFFF and nowhere else. -/
theorem State.busWrite_ie (a : Word) (v : Byte) :
    (s.busWrite a v).ie = if a = 0xFFFF#16 then v.setWidth 5 else s.ie := by
  have hr := regionOf_holds a
  have ha : (a = 0xFFFF#16) ↔ a.toNat = 0xFFFF := by
    constructor
    · rintro rfl; rfl
    · intro h; apply BitVec.eq_of_toNat_eq; simpa using h
  unfold State.busWrite
  cases hreg : regionOf a <;> rw [hreg] at hr <;> simp only [Region.Holds] at hr
  case ie => rw [if_pos (ha.2 hr)]
  case xram off => rw [if_neg (by rw [ha]; omega)]; cases h : s.xramCell off <;> simp [h]
  all_goals (rw [if_neg (by rw [ha]; omega)]; try simp)

/-- The bank registers are written below 0x8000 and nowhere else. -/
theorem State.busWrite_bank {a : Word} (v : Byte) (h : 0x8000 ≤ a.toNat) : (s.busWrite a v).bank = s.bank := by
  have hr := regionOf_holds a
  unfold State.busWrite
  cases hreg : regionOf a <;> rw [hreg] at hr <;> simp only [Region.Holds] at hr
  case rom00 => omega
  case romNN => omega
  case xram off => cases h : s.xramCell off <;> simp [h]
  all_goals simp

/-- The overlay is switched off by a non-zero write to 0xFF50, and by no other write. -/
theorem State.busWrite_bootActive (a : Word) (v : Byte) :
    (s.busWrite a v).bootActive = (s.bootActive && !(decide (a = 0xFF50#16) && decide (v ≠ 0x00#8))) := by
  have hr := regionOf_holds a
  have ha : (a = 0xFF50#16) ↔ a.toNat = 0xFF50 := by
    constructor
    · rintro rfl; rfl
    · intro h; apply BitVec.eq_of_toNat_eq; simpa using h
  unfold State.busWrite
  cases hreg : regionOf a <;> rw [hreg] at hr <;> simp only [Region.Holds] at hr
  case io off =>
    simp only
    by_cases h : a = 0xFF50#16
    · have hoff : off = 0x50 := by have := ha.1 h; omega
      subst hoff
      simp only [State.ioWrite, h]
      by_cases hv : v = 0x00#8 <;> simp [hv]
    · have hoff : off ≠ 0x50 := by intro e; exact h (ha.2 (by omega))
      simp only [h, decide_false, Bool.false_and, Bool.not_false, Bool.and_true]
      unfold State.ioWrite
      (repeat' split) <;> rfl
  case xram off =>
    have hne : ¬ a = 0xFF50#16 := by rw [ha]; omega
    cases h : s.xramCell off <;> simp [h, hne]
  case rom00 =>
    have hne : ¬ a = 0xFF50#16 := by rw [ha]; omega
    simp [hne]
  case romNN =>
    have hne : ¬ a = 0xFF50#16 := by rw [ha]; omega
    simp [hne]
  all_goals
    have hne : ¬ a = 0xFF50#16 := by rw [ha]; omega
    simp [hne]

/-! ## What reads depend on -/

/-- The cell behind an address depends only on what selects banks. -/
theorem State.target_congr {s t : State} (b : Word) (hcart : t.cart = s.cart) (hbank : t.bank = s.bank)
    (hboot : t.boot = s.boot) (hcfg : t.cfg = s.cfg) (hv : t.vbank = s.vbank) (hw : t.wbank = s.wbank) :
    t.target b = s.target b := by
  have hc : t.colorMode = s.colorMode := by unfold State.colorMode; rw [hboot, hcfg]
  unfold State.target
  cases regionOf b <;> simp [hv, hw, hc, State.xramCell, State.ramSel, hcart, hbank]

/-- The byte at an address depends only on what selects banks and the overlay, `IE`, and the cell behind the address. -/
theorem State.peek_congr {s t : State} (b : Word) (hcart : t.cart = s.cart) (hbank : t.bank = s.bank)
    (hboot : t.boot = s.boot) (hact : t.bootActive = s.bootActive) (hcfg : t.cfg = s.cfg) (hie : t.ie = s.ie)
    (hv : t.vbank = s.vbank) (hw : t.wbank = s.wbank)
    (hcell : ∀ n k, s.target b = some (n, k) → t.cell n k = s.cell n k) : t.peek b = s.peek b := by
  have hc : t.colorMode = s.colorMode := by unfold State.colorMode; rw [hboot, hcfg]
  have ho : t.overlayByte b = s.overlayByte b := by unfold State.overlayByte; rw [hboot, hact]
  unfold State.peek
  rw [ho]
  have hreg : t.regionByte (regionOf b) b = s.regionByte (regionOf b) b := by
    unfold State.target at hcell
    unfold State.regionByte
    have h00 : t.rom00Bank = s.rom00Bank := by simp only [State.rom00Bank, hcart, hbank]
    have hNN : t.romNNBank = s.romNNBank := by simp only [State.romNNBank, hcart, hbank]
    have hrom (k : Nat) : t.romByte k b = s.romByte k b := by
      unfold State.romByte State.romOffset State.romBankCount
      rw [hcart]
    cases hr : regionOf b with
    | rom00 => simp only; rw [h00, hrom]
    | romNN => simp only; rw [hNN, hrom]
    | vram off => rw [hr] at hcell; simp only; rw [hv, hcell _ _ rfl]
    | xram off =>
      rw [hr] at hcell
      have hx : t.xramCell off = s.xramCell off := by simp [State.xramCell, State.ramSel, hcart, hbank]
      simp only [hx]
      cases h : s.xramCell off with
      | none => rfl
      | some k => simp only [Option.elim]; rw [hcell _ _ (by simp [h])]
    | wram0 off => rw [hr] at hcell; simp only; rw [hcell _ _ rfl]
    | wramN off => rw [hr] at hcell; simp only; rw [hw, hcell _ _ rfl]
    | oam off => rw [hr] at hcell; simp only; rw [hcell _ _ rfl]
    | unusable => rfl
    | io off =>
      rw [hr] at hcell
      simp only [State.ioRead, State.io_eq_cell, hc]
      by_cases hwv : 0x30 ≤ off ∧ off ≤ 0x3F
      · have hF : off ≠ 0x0F := by omega
        rw [if_neg hF, if_neg hF, if_pos hwv, if_pos hwv, hcell .wave (off - 0x30) (by simp [hwv])]
      · by_cases hb : off = 0x4F ∨ off = 0x70
        · have hF : off ≠ 0x0F := by omega
          rw [if_neg hF, if_neg hF, if_neg hwv, if_neg hwv, if_pos hb, if_pos hb]
          cases hcm : s.colorMode
          · rfl
          · simp only [if_true]; rw [hcell .io off (by simp [hwv, hcm])]
        · have hcl : t.cell .io off = s.cell .io off := hcell .io off (by simp [hwv, hb])
          by_cases hF : off = 0x0F
          · subst hF; rw [if_pos rfl, if_pos rfl, hcl]
          · rw [if_neg hF, if_neg hF, if_neg hwv, if_neg hwv, if_neg hb, if_neg hb, hcl]
    | hram off => rw [hr] at hcell; simp only; rw [hcell _ _ rfl]
    | ie => simp [hie]
  rw [hreg]

/-- The I/O cells that select banks. -/
theorem State.banks_congr {s t : State} (hboot : t.boot = s.boot) (hcfg : t.cfg = s.cfg)
    (h4F : t.cell .io 0x4F = s.cell .io 0x4F) (h70 : t.cell .io 0x70 = s.cell .io 0x70) :
    t.vbank = s.vbank ∧ t.wbank = s.wbank := by
  have hc : t.colorMode = s.colorMode := by unfold State.colorMode; rw [hboot, hcfg]
  constructor
  · unfold State.vbank; rw [hc, State.io_eq_cell, State.io_eq_cell, h4F]
  · unfold State.wbank; rw [hc, State.io_eq_cell, State.io_eq_cell, h70]

/-- What plain storage is: a cell, not one of the special I/O bytes, and an address from 0x8000 to 0xFFFE. -/
theorem State.storesPlainly_cases {a : Word} (h : s.storesPlainly a = true) :
    ∃ n k, s.target a = some (n, k) ∧ (∀ i ∈ specialIo, (n, k) ≠ (.io, i)) ∧
      0x8000 ≤ a.toNat ∧ a ≠ 0xFFFF#16 ∧ a ≠ 0xFF50#16 := by
  have hr := regionOf_holds a
  unfold State.storesPlainly at h
  simp only [Bool.and_eq_true] at h
  obtain ⟨ht, hp⟩ := h
  obtain ⟨⟨n, k⟩, ht⟩ := Option.isSome_iff_exists.1 ht
  refine ⟨n, k, ht, ?_⟩
  unfold State.target at ht
  cases hreg : regionOf a with
  | io off =>
    rw [hreg] at ht hp hr
    simp only [Region.Holds] at hr
    simp only [specialIo, List.contains_eq_mem, List.mem_cons, List.not_mem_nil, or_false, Bool.not_eq_true',
      decide_eq_false_iff_not] at hp
    simp only at ht
    refine ⟨?_, by omega, by rintro rfl; simp at hr; omega, by rintro rfl; simp at hr; omega⟩
    split at ht
    · simp only [Option.some.injEq, Prod.mk.injEq] at ht
      obtain ⟨rfl, rfl⟩ := ht
      intro i _ e
      simp at e
    · split at ht
      · simp at ht
      · simp only [Option.some.injEq, Prod.mk.injEq] at ht
        obtain ⟨rfl, rfl⟩ := ht
        intro i hi e
        simp only [Prod.mk.injEq, true_and] at e
        subst e
        simp [specialIo] at hi
        omega
  | xram off =>
    rw [hreg] at ht hr
    simp only [Region.Holds] at hr
    simp only [Option.map_eq_some_iff, Prod.mk.injEq] at ht
    obtain ⟨k', hk, rfl, rfl⟩ := ht
    exact ⟨by intro i _ e; simp at e, by omega, by rintro rfl; simp at hr; omega, by rintro rfl; simp at hr; omega⟩
  | _ =>
    rw [hreg] at ht hr
    simp only [Region.Holds] at hr
    cases ht <;>
      exact ⟨by intro i _ e; simp at e, by omega, by rintro rfl; simp at hr; omega, by rintro rfl; simp at hr; omega⟩

/-! ## Plain storage (20_memory.md R135) -/

variable {s}

/-- A write to plain storage stores the byte in the cell behind the address and does nothing else. -/
theorem State.busWrite_plain {a : Word} (v : Byte) {n : ArrayName} {k : Nat} (hp : s.storesPlainly a = true)
    (ht : s.target a = some (n, k)) : s.busWrite a v = s.store n k v := by
  unfold State.storesPlainly at hp
  unfold State.target at ht
  unfold State.busWrite
  cases hreg : regionOf a with
  | io off =>
    rw [hreg] at ht hp
    simp only [specialIo, Bool.and_eq_true, List.contains_eq_mem, List.mem_cons, List.not_mem_nil, or_false,
      Bool.not_eq_true', decide_eq_false_iff_not] at hp
    simp only at ht
    have hp := hp.2
    simp only
    unfold State.ioWrite
    rw [if_neg (by tauto), if_neg (by tauto), if_neg (by tauto), if_neg (by tauto)]
    by_cases hw : 0x30 ≤ off ∧ off ≤ 0x3F
    · rw [if_pos hw] at ht ⊢
      cases ht; rfl
    · rw [if_neg hw] at ht ⊢
      rw [if_neg (by tauto)] at ht
      rw [if_neg (by tauto), if_neg (by tauto)]
      cases ht; rfl
  | xram off =>
    rw [hreg] at ht
    simp only at ht
    cases hx : s.xramCell off <;> rw [hx] at ht <;> cases ht
    simp [hx]
  | _ => rw [hreg] at ht; cases ht <;> rfl

/-- A read of a cell that has no access rule of its own returns that cell. -/
theorem State.peek_of_target {b : Word} {n : ArrayName} {k : Nat} (ht : s.target b = some (n, k))
    (hs : ∀ i ∈ specialIo, (n, k) ≠ (.io, i)) : s.peek b = some (s.cell n k) := by
  have hr := regionOf_holds b
  unfold State.target at ht
  have ho (h : 0x8000 ≤ b.toNat) : s.overlayByte b = none := s.overlayByte_eq_none (by omega)
  unfold State.peek
  cases hreg : regionOf b with
  | io off =>
    rw [hreg] at ht hr
    simp only [Region.Holds] at hr
    rw [ho (by omega)]
    simp only [State.regionByte, State.ioRead, State.io_eq_cell]
    by_cases hw : 0x30 ≤ off ∧ off ≤ 0x3F
    · simp only [if_pos hw] at ht
      cases ht
      have hF : off ≠ 0x0F := by omega
      rw [if_neg hF, if_pos hw]
    · simp only [if_neg hw] at ht
      by_cases hb : (off = 0x4F ∨ off = 0x70) ∧ s.colorMode = false
      · rw [if_pos hb] at ht; cases ht
      · rw [if_neg hb] at ht
        simp only [Option.some.injEq, Prod.mk.injEq] at ht
        obtain ⟨rfl, rfl⟩ := ht
        have hF : off ≠ 0x0F := fun e => hs 0x0F (by decide) (by rw [e])
        have hb' : ¬ (off = 0x4F ∨ off = 0x70) := by
          rintro (e | e)
          · exact hs 0x4F (by decide) (by rw [e])
          · exact hs 0x70 (by decide) (by rw [e])
        rw [if_neg hF, if_neg hw, if_neg hb']
  | xram off =>
    rw [hreg] at ht hr
    simp only [Region.Holds] at hr
    rw [ho (by omega)]
    simp only at ht
    cases hx : s.xramCell off <;> rw [hx] at ht <;> cases ht
    simp [State.regionByte, hx]
  | _ =>
    rw [hreg] at ht hr
    simp only [Region.Holds] at hr
    cases ht <;> (rw [ho (by omega)]; rfl)

/-- The cell behind an address does not move when a cell that selects no bank is stored to. -/
theorem State.target_store {n : ArrayName} {k : Nat} (v : Byte) (hs : ∀ i ∈ specialIo, (n, k) ≠ (.io, i)) (b : Word) :
    (s.store n k v).target b = s.target b := by
  obtain ⟨hv, hw⟩ := State.banks_congr (s := s) (t := s.store n k v) rfl rfl
    (s.cell_store_ne v (fun e => hs 0x4F (by decide) e.symm)) (s.cell_store_ne v (fun e => hs 0x70 (by decide) e.symm))
  exact State.target_congr b rfl rfl rfl rfl hv hw

/-- A store to a cell that selects no bank changes what no address of another cell reads. -/
theorem State.peek_store_ne {n : ArrayName} {k : Nat} (v : Byte) (hs : ∀ i ∈ specialIo, (n, k) ≠ (.io, i)) {b : Word}
    (hb : s.target b ≠ some (n, k)) : (s.store n k v).peek b = s.peek b := by
  obtain ⟨hv, hw⟩ := State.banks_congr (s := s) (t := s.store n k v) rfl rfl
    (s.cell_store_ne v (fun e => hs 0x4F (by decide) e.symm)) (s.cell_store_ne v (fun e => hs 0x70 (by decide) e.symm))
  refine State.peek_congr b rfl rfl rfl rfl rfl rfl hv hw fun n' k' h => s.cell_store_ne v ?_
  intro e; rw [e] at h; exact hb h

/-- A byte stored in plain storage is read back at every address of its cell. -/
theorem State.peek_store_self {r : Nat} (hg : s.mem.Good r) {n : ArrayName} {k : Nat} (v : Byte)
    (hs : ∀ i ∈ specialIo, (n, k) ≠ (.io, i)) {b : Word} (hb : s.target b = some (n, k)) :
    (s.store n k v).peek b = some v := by
  rw [State.peek_of_target (by rw [State.target_store v hs]; exact hb) hs, s.cell_store_self hg]


/-- Which addresses a cell can be behind: its own, and for work RAM the echo address too. -/
theorem State.target_addr {a : Word} {n : ArrayName} {k : Nat} (ht : s.target a = some (n, k)) :
    match n with
    | .vram => a.toNat = 0x8000 + k % 0x2000
    | .xram => a.toNat = 0xA000 + k % 0x2000
    | .wram => (k < 0x1000 ∧ (a.toNat = 0xC000 + k ∨ a.toNat = 0xE000 + k)) ∨
        (0x1000 ≤ k ∧ (a.toNat = 0xD000 + k % 0x1000 ∨ a.toNat = 0xF000 + k % 0x1000))
    | .oam => a.toNat = 0xFE00 + k
    | .io => a.toNat = 0xFF00 + k
    | .wave => a.toNat = 0xFF30 + k
    | .hram => a.toNat = 0xFF80 + k
    | .fb => False := by
  have hr := regionOf_holds a
  have hw := s.wbank_pos
  unfold State.target at ht
  cases hreg : regionOf a with
  | io off =>
    rw [hreg] at ht hr
    simp only [Region.Holds] at hr ht
    split at ht
    · cases ht; simp only; omega
    · split at ht
      · cases ht
      · cases ht; exact hr.1
  | xram off =>
    rw [hreg] at ht hr
    simp only [Region.Holds] at hr ht
    simp only [State.xramCell] at ht
    split at ht
    · cases ht
    · cases h : s.ramSel <;> rw [h] at ht <;> cases ht
      simp only; omega
  | _ =>
    rw [hreg] at ht hr
    simp only [Region.Holds] at hr
    cases ht <;> (simp only; omega)

/-- Two neighbouring addresses never share a cell. -/
theorem State.target_succ_ne {a : Word} {n : ArrayName} {k : Nat} (ht : s.target a = some (n, k))
    (ha : a.toNat + 1 < 0x10000) : s.target (a + 1) ≠ some (n, k) := by
  intro ht'
  have hn : (a + 1).toNat = a.toNat + 1 := by rw [BitVec.toNat_add]; simp; omega
  have h := State.target_addr ht
  have h' := State.target_addr ht'
  rw [hn] at h'
  cases n <;> simp only at h h' <;> omega

/-- A bus write does not look at the run state or the clock, and keeps them. -/
theorem State.busWrite_withRun (s : State) (r : RunState) (c : Nat) (a : Word) (v : Byte) :
    State.busWrite { s with run := r, clkTotal := c } a v = { s.busWrite a v with run := r, clkTotal := c } := by
  have hx (off : Nat) : State.xramCell { s with run := r, clkTotal := c } off = s.xramCell off := rfl
  have hc : State.colorMode { s with run := r, clkTotal := c } = s.colorMode := rfl
  unfold State.busWrite
  cases regionOf a with
  | rom00 => unfold State.bankWrite; dsimp only; split <;> rfl
  | romNN => unfold State.bankWrite; dsimp only; split <;> rfl
  | xram off => dsimp only; rw [hx]; cases s.xramCell off <;> rfl
  | io off =>
    dsimp only
    unfold State.ioWrite
    rw [hc]
    (repeat' split) <;> rfl
  | _ => rfl

end Sys2Proof.Machine
end

