-- ==== Sys2Proof/Laws/Exec.lean ====
section
/-! SUPPORT. What `exec` runs, family by family: each lemma names the shared operation behind the constructors that a family
function of the decoder gives. Statements about a family cite these and never unfold `exec`. -/
namespace Sys2Proof.Machine

variable (s : State)

theorem exec_ld_reg (d r : Reg8) : exec (Instr.ld (.reg d) (.reg r)) s = copyReg d r s := by
  cases d <;> cases r <;> rfl

theorem exec_ld_reg_mem (d : Reg8) : exec (Instr.ld (.reg d) .indHL) s = loadFrom d s.hl 1 8 s := by cases d <;> rfl

theorem exec_ld_mem_reg (r : Reg8) : exec (Instr.ld .indHL (.reg r)) s = storeTo s.hl (s.reg r) 1 8 s := by
  cases r <;> rfl

theorem exec_ldImm_reg (d : Reg8) (d8 : Byte) : exec (Instr.ldImm (.reg d) d8) s = loadImm d d8 s := by cases d <;> rfl

theorem exec_alu_reg (op : AluOp) (r : Reg8) : exec (Instr.alu op (.reg r)) s = aluReg op r s := by
  cases op <;> cases r <;> rfl

theorem exec_alu_mem (op : AluOp) : exec (Instr.alu op .indHL) s = aluMem op s := by cases op <;> rfl

theorem exec_aluImm (op : AluOp) (d8 : Byte) : exec (Instr.aluImm op d8) s = aluImm op d8 s := by cases op <;> rfl

theorem exec_shift_reg (op : ShiftOp) (r : Reg8) : exec (Instr.shift op (.reg r)) s = shiftReg op r s := by
  cases op <;> cases r <;> rfl

theorem exec_shift_mem (op : ShiftOp) : exec (Instr.shift op .indHL) s = shiftMem op s := by cases op <;> rfl

theorem exec_bit_reg (b : Fin 8) (r : Reg8) : exec (Instr.bit b (.reg r)) s = bitReg b r s := by
  fin_cases b <;> cases r <;> rfl

theorem exec_bit_mem (b : Fin 8) : exec (Instr.bit b .indHL) s = bitMem b s := by fin_cases b <;> rfl

theorem exec_res_reg (b : Fin 8) (r : Reg8) : exec (Instr.res b (.reg r)) s = resBitReg b r s := by
  fin_cases b <;> cases r <;> rfl

theorem exec_res_mem (b : Fin 8) : exec (Instr.res b .indHL) s = resBitMem b s := by fin_cases b <;> rfl

theorem exec_set_reg (b : Fin 8) (r : Reg8) : exec (Instr.set b (.reg r)) s = setBitReg b r s := by
  fin_cases b <;> cases r <;> rfl

theorem exec_set_mem (b : Fin 8) : exec (Instr.set b .indHL) s = setBitMem b s := by fin_cases b <;> rfl

theorem exec_inc_reg (r : Reg8) : exec (Instr.inc (.reg r)) s = incReg r s := by cases r <;> rfl

theorem exec_dec_reg (r : Reg8) : exec (Instr.dec (.reg r)) s = decReg r s := by cases r <;> rfl

theorem exec_ldPair (rr : Pair) (d16 : Word) : exec (Instr.ldPair rr d16) s = loadPairImm rr d16 s := by
  cases rr <;> rfl

theorem exec_addHL (rr : Pair) : exec (Instr.addHL rr) s = addToHL rr s := by cases rr <;> rfl

theorem exec_incPair (rr : Pair) : exec (Instr.incPair rr) s = incPair rr s := by cases rr <;> rfl

theorem exec_decPair (rr : Pair) : exec (Instr.decPair rr) s = decPair rr s := by cases rr <;> rfl

theorem exec_push (qq : StackPair) : exec (Instr.push qq) s = pushPair qq s := by cases qq <;> rfl

theorem exec_pop (qq : StackPair) : exec (Instr.pop qq) s = popPair qq s := by cases qq <;> rfl

theorem exec_jr (cc : Cond) (e8 : Byte) : exec (Instr.jr cc e8) s = jumpRelCond cc e8 s := by cases cc <;> rfl

theorem exec_jp (cc : Cond) (a16 : Word) : exec (Instr.jp cc a16) s = jumpCond cc a16 s := by cases cc <;> rfl

theorem exec_call (cc : Cond) (a16 : Word) : exec (Instr.call cc a16) s = callCond cc a16 s := by cases cc <;> rfl

theorem exec_retCond (cc : Cond) : exec (Instr.retCond cc) s = returnCond cc s := by cases cc <;> rfl

theorem exec_rst (y : Fin 8) : exec (Instr.rst y) s = callTo (BitVec.ofNat 16 (y.val * 8)) 1 16 s := by
  fin_cases y <;> rfl

theorem exec_unassigned {p : Byte × Instr} (h : p ∈ Instr.unassigned) : exec p.2 s = raiseOpcodeError p.1 s := by
  simp only [Instr.unassigned, List.mem_cons, List.not_mem_nil, or_false] at h
  rcases h with rfl | rfl | rfl | rfl | rfl | rfl | rfl | rfl | rfl | rfl | rfl <;> rfl

/-- The row `PREFIX CB` runs the instruction that its second byte selects (46_cpu_control.md R375). -/
theorem exec_prefix_eq (op2 : Byte) : exec (.prefix_CB op2) s = exec (decodeCB op2) s := by
  show selectCB op2 s = _
  unfold selectCB decodeCB
  have hx : fieldX op2 < 4 := by unfold fieldX; have := op2.isLt; omega
  generalize fieldX op2 = x at hx
  cases Operand8.ofCode (fieldZ op2) <;>
    (obtain rfl | rfl | rfl | rfl : x = 0 ∨ x = 1 ∨ x = 2 ∨ x = 3 := by omega) <;>
    simp [exec_shift_reg, exec_shift_mem, exec_bit_reg, exec_bit_mem, exec_res_reg, exec_res_mem, exec_set_reg,
      exec_set_mem]

end Sys2Proof.Machine
end

