-- ==== Sys2Proof/Laws/Shape.lean ====
section
/-! SUPPORT. The instruction set by family: every constructor of `Instr` is one instruction of a family of the decoder, or
stands alone. A statement about every instruction is proved shape by shape (70 cases) instead of row by row. -/
namespace Sys2Proof

/-- The shapes of an instruction: the families of Sys2Proof/Decode.lean, register forms and `(HL)` forms apart, the
unassigned values, and the rows that stand alone. -/
inductive Instr.Shape : Instr → Prop where
  | ld_reg (dst src : Reg8) : Instr.Shape (Instr.ld (.reg dst) (.reg src))
  | ld_reg_mem (dst : Reg8) : Instr.Shape (Instr.ld (.reg dst) .indHL)
  | ld_mem_reg (src : Reg8) : Instr.Shape (Instr.ld .indHL (.reg src))
  | ldImm_reg (dst : Reg8) (d8 : Byte) : Instr.Shape (Instr.ldImm (.reg dst) d8)
  | alu_reg (op : AluOp) (r : Reg8) : Instr.Shape (Instr.alu op (.reg r))
  | alu_mem (op : AluOp) : Instr.Shape (Instr.alu op .indHL)
  | aluImm (op : AluOp) (d8 : Byte) : Instr.Shape (Instr.aluImm op d8)
  | shift_reg (op : ShiftOp) (r : Reg8) : Instr.Shape (Instr.shift op (.reg r))
  | shift_mem (op : ShiftOp) : Instr.Shape (Instr.shift op .indHL)
  | bit_reg (b : Fin 8) (r : Reg8) : Instr.Shape (Instr.bit b (.reg r))
  | bit_mem (b : Fin 8) : Instr.Shape (Instr.bit b .indHL)
  | res_reg (b : Fin 8) (r : Reg8) : Instr.Shape (Instr.res b (.reg r))
  | res_mem (b : Fin 8) : Instr.Shape (Instr.res b .indHL)
  | set_reg (b : Fin 8) (r : Reg8) : Instr.Shape (Instr.set b (.reg r))
  | set_mem (b : Fin 8) : Instr.Shape (Instr.set b .indHL)
  | inc_reg (r : Reg8) : Instr.Shape (Instr.inc (.reg r))
  | dec_reg (r : Reg8) : Instr.Shape (Instr.dec (.reg r))
  | ldPair (rr : Pair) (d16 : Word) : Instr.Shape (Instr.ldPair rr d16)
  | addHL (rr : Pair) : Instr.Shape (Instr.addHL rr)
  | incPair (rr : Pair) : Instr.Shape (Instr.incPair rr)
  | decPair (rr : Pair) : Instr.Shape (Instr.decPair rr)
  | push (qq : StackPair) : Instr.Shape (Instr.push qq)
  | pop (qq : StackPair) : Instr.Shape (Instr.pop qq)
  | jr (cc : Cond) (e8 : Byte) : Instr.Shape (Instr.jr cc e8)
  | jp (cc : Cond) (a16 : Word) : Instr.Shape (Instr.jp cc a16)
  | call (cc : Cond) (a16 : Word) : Instr.Shape (Instr.call cc a16)
  | retCond (cc : Cond) : Instr.Shape (Instr.retCond cc)
  | rst (y : Fin 8) : Instr.Shape (Instr.rst y)
  | unassigned (p : Byte × Instr) (h : p ∈ Instr.unassigned) : Instr.Shape p.2
  | ld_indHL_d8 (d8 : Byte) : Instr.Shape (Instr.ld_indHL_d8 d8)
  | ldh_ind_a8_A (a8 : Byte) : Instr.Shape (Instr.ldh_ind_a8_A a8)
  | ld_ind_a16_A (a16 : Word) : Instr.Shape (Instr.ld_ind_a16_A a16)
  | ldh_A_ind_a8 (a8 : Byte) : Instr.Shape (Instr.ldh_A_ind_a8 a8)
  | ld_A_ind_a16 (a16 : Word) : Instr.Shape (Instr.ld_A_ind_a16 a16)
  | ld_ind_a16_SP (a16 : Word) : Instr.Shape (Instr.ld_ind_a16_SP a16)
  | ld_HL_SPe8 (e8 : Byte) : Instr.Shape (Instr.ld_HL_SPe8 e8)
  | add_SP_e8 (e8 : Byte) : Instr.Shape (Instr.add_SP_e8 e8)
  | jr_e8 (e8 : Byte) : Instr.Shape (Instr.jr_e8 e8)
  | jp_a16 (a16 : Word) : Instr.Shape (Instr.jp_a16 a16)
  | call_a16 (a16 : Word) : Instr.Shape (Instr.call_a16 a16)
  | stop (ignored : Byte) : Instr.Shape (Instr.stop ignored)
  | prefix_CB (op2 : Byte) : Instr.Shape (Instr.prefix_CB op2)
  | ld_indBC_A : Instr.Shape Instr.ld_indBC_A
  | ld_A_indBC : Instr.Shape Instr.ld_A_indBC
  | ld_indDE_A : Instr.Shape Instr.ld_indDE_A
  | ld_A_indDE : Instr.Shape Instr.ld_A_indDE
  | ld_indHLinc_A : Instr.Shape Instr.ld_indHLinc_A
  | ld_A_indHLinc : Instr.Shape Instr.ld_A_indHLinc
  | ld_indHLdec_A : Instr.Shape Instr.ld_indHLdec_A
  | ld_A_indHLdec : Instr.Shape Instr.ld_A_indHLdec
  | ld_indC_A : Instr.Shape Instr.ld_indC_A
  | ld_A_indC : Instr.Shape Instr.ld_A_indC
  | ld_SP_HL : Instr.Shape Instr.ld_SP_HL
  | daa : Instr.Shape Instr.daa
  | cpl : Instr.Shape Instr.cpl
  | inc_indHL : Instr.Shape Instr.inc_indHL
  | dec_indHL : Instr.Shape Instr.dec_indHL
  | scf : Instr.Shape Instr.scf
  | ccf : Instr.Shape Instr.ccf
  | rlca : Instr.Shape Instr.rlca
  | rrca : Instr.Shape Instr.rrca
  | rla : Instr.Shape Instr.rla
  | rra : Instr.Shape Instr.rra
  | ret : Instr.Shape Instr.ret
  | reti : Instr.Shape Instr.reti
  | jp_HL : Instr.Shape Instr.jp_HL
  | nop : Instr.Shape Instr.nop
  | halt : Instr.Shape Instr.halt
  | di : Instr.Shape Instr.di
  | ei : Instr.Shape Instr.ei

/-- Every instruction has a shape. -/
theorem Instr.shape (i : Instr) : i.Shape := by
  cases i with
  | ld_B_d8 _ => exact .ldImm_reg .B _
  | ld_C_d8 _ => exact .ldImm_reg .C _
  | ld_D_d8 _ => exact .ldImm_reg .D _
  | ld_E_d8 _ => exact .ldImm_reg .E _
  | ld_H_d8 _ => exact .ldImm_reg .H _
  | ld_L_d8 _ => exact .ldImm_reg .L _
  | ld_indHL_d8 _ => exact .ld_indHL_d8 _
  | ld_A_d8 _ => exact .ldImm_reg .A _
  | ldh_ind_a8_A _ => exact .ldh_ind_a8_A _
  | ld_ind_a16_A _ => exact .ld_ind_a16_A _
  | ldh_A_ind_a8 _ => exact .ldh_A_ind_a8 _
  | ld_A_ind_a16 _ => exact .ld_A_ind_a16 _
  | ld_BC_d16 _ => exact .ldPair .BC _
  | ld_ind_a16_SP _ => exact .ld_ind_a16_SP _
  | ld_DE_d16 _ => exact .ldPair .DE _
  | ld_HL_d16 _ => exact .ldPair .HL _
  | ld_SP_d16 _ => exact .ldPair .SP _
  | ld_HL_SPe8 _ => exact .ld_HL_SPe8 _
  | add_A_d8 _ => exact .aluImm .add _
  | adc_A_d8 _ => exact .aluImm .adc _
  | sub_d8 _ => exact .aluImm .sub _
  | sbc_A_d8 _ => exact .aluImm .sbc _
  | and_d8 _ => exact .aluImm .and _
  | xor_d8 _ => exact .aluImm .xor _
  | or_d8 _ => exact .aluImm .or _
  | cp_d8 _ => exact .aluImm .cp _
  | add_SP_e8 _ => exact .add_SP_e8 _
  | jr_e8 _ => exact .jr_e8 _
  | jr_NZ_e8 _ => exact .jr .NZ _
  | jr_Z_e8 _ => exact .jr .Z _
  | jr_NC_e8 _ => exact .jr .NC _
  | jr_C_e8 _ => exact .jr .C _
  | jp_NZ_a16 _ => exact .jp .NZ _
  | jp_a16 _ => exact .jp_a16 _
  | call_NZ_a16 _ => exact .call .NZ _
  | jp_Z_a16 _ => exact .jp .Z _
  | call_Z_a16 _ => exact .call .Z _
  | call_a16 _ => exact .call_a16 _
  | jp_NC_a16 _ => exact .jp .NC _
  | call_NC_a16 _ => exact .call .NC _
  | jp_C_a16 _ => exact .jp .C _
  | call_C_a16 _ => exact .call .C _
  | stop _ => exact .stop _
  | prefix_CB _ => exact .prefix_CB _
  | ld_indBC_A => exact .ld_indBC_A
  | ld_A_indBC => exact .ld_A_indBC
  | ld_indDE_A => exact .ld_indDE_A
  | ld_A_indDE => exact .ld_A_indDE
  | ld_indHLinc_A => exact .ld_indHLinc_A
  | ld_A_indHLinc => exact .ld_A_indHLinc
  | ld_indHLdec_A => exact .ld_indHLdec_A
  | ld_A_indHLdec => exact .ld_A_indHLdec
  | ld_B_B => exact .ld_reg .B .B
  | ld_B_C => exact .ld_reg .B .C
  | ld_B_D => exact .ld_reg .B .D
  | ld_B_E => exact .ld_reg .B .E
  | ld_B_H => exact .ld_reg .B .H
  | ld_B_L => exact .ld_reg .B .L
  | ld_B_indHL => exact .ld_reg_mem .B
  | ld_B_A => exact .ld_reg .B .A
  | ld_C_B => exact .ld_reg .C .B
  | ld_C_C => exact .ld_reg .C .C
  | ld_C_D => exact .ld_reg .C .D
  | ld_C_E => exact .ld_reg .C .E
  | ld_C_H => exact .ld_reg .C .H
  | ld_C_L => exact .ld_reg .C .L
  | ld_C_indHL => exact .ld_reg_mem .C
  | ld_C_A => exact .ld_reg .C .A
  | ld_D_B => exact .ld_reg .D .B
  | ld_D_C => exact .ld_reg .D .C
  | ld_D_D => exact .ld_reg .D .D
  | ld_D_E => exact .ld_reg .D .E
  | ld_D_H => exact .ld_reg .D .H
  | ld_D_L => exact .ld_reg .D .L
  | ld_D_indHL => exact .ld_reg_mem .D
  | ld_D_A => exact .ld_reg .D .A
  | ld_E_B => exact .ld_reg .E .B
  | ld_E_C => exact .ld_reg .E .C
  | ld_E_D => exact .ld_reg .E .D
  | ld_E_E => exact .ld_reg .E .E
  | ld_E_H => exact .ld_reg .E .H
  | ld_E_L => exact .ld_reg .E .L
  | ld_E_indHL => exact .ld_reg_mem .E
  | ld_E_A => exact .ld_reg .E .A
  | ld_H_B => exact .ld_reg .H .B
  | ld_H_C => exact .ld_reg .H .C
  | ld_H_D => exact .ld_reg .H .D
  | ld_H_E => exact .ld_reg .H .E
  | ld_H_H => exact .ld_reg .H .H
  | ld_H_L => exact .ld_reg .H .L
  | ld_H_indHL => exact .ld_reg_mem .H
  | ld_H_A => exact .ld_reg .H .A
  | ld_L_B => exact .ld_reg .L .B
  | ld_L_C => exact .ld_reg .L .C
  | ld_L_D => exact .ld_reg .L .D
  | ld_L_E => exact .ld_reg .L .E
  | ld_L_H => exact .ld_reg .L .H
  | ld_L_L => exact .ld_reg .L .L
  | ld_L_indHL => exact .ld_reg_mem .L
  | ld_L_A => exact .ld_reg .L .A
  | ld_indHL_B => exact .ld_mem_reg .B
  | ld_indHL_C => exact .ld_mem_reg .C
  | ld_indHL_D => exact .ld_mem_reg .D
  | ld_indHL_E => exact .ld_mem_reg .E
  | ld_indHL_H => exact .ld_mem_reg .H
  | ld_indHL_L => exact .ld_mem_reg .L
  | ld_indHL_A => exact .ld_mem_reg .A
  | ld_A_B => exact .ld_reg .A .B
  | ld_A_C => exact .ld_reg .A .C
  | ld_A_D => exact .ld_reg .A .D
  | ld_A_E => exact .ld_reg .A .E
  | ld_A_H => exact .ld_reg .A .H
  | ld_A_L => exact .ld_reg .A .L
  | ld_A_indHL => exact .ld_reg_mem .A
  | ld_A_A => exact .ld_reg .A .A
  | ld_indC_A => exact .ld_indC_A
  | ld_A_indC => exact .ld_A_indC
  | pop_BC => exact .pop .BC
  | push_BC => exact .push .BC
  | pop_DE => exact .pop .DE
  | push_DE => exact .push .DE
  | pop_HL => exact .pop .HL
  | push_HL => exact .push .HL
  | pop_AF => exact .pop .AF
  | push_AF => exact .push .AF
  | ld_SP_HL => exact .ld_SP_HL
  | inc_B => exact .inc_reg .B
  | dec_B => exact .dec_reg .B
  | inc_C => exact .inc_reg .C
  | dec_C => exact .dec_reg .C
  | inc_D => exact .inc_reg .D
  | dec_D => exact .dec_reg .D
  | inc_E => exact .inc_reg .E
  | dec_E => exact .dec_reg .E
  | inc_H => exact .inc_reg .H
  | dec_H => exact .dec_reg .H
  | daa => exact .daa
  | inc_L => exact .inc_reg .L
  | dec_L => exact .dec_reg .L
  | cpl => exact .cpl
  | inc_indHL => exact .inc_indHL
  | dec_indHL => exact .dec_indHL
  | scf => exact .scf
  | inc_A => exact .inc_reg .A
  | dec_A => exact .dec_reg .A
  | ccf => exact .ccf
  | add_A_B => exact .alu_reg .add .B
  | add_A_C => exact .alu_reg .add .C
  | add_A_D => exact .alu_reg .add .D
  | add_A_E => exact .alu_reg .add .E
  | add_A_H => exact .alu_reg .add .H
  | add_A_L => exact .alu_reg .add .L
  | add_A_indHL => exact .alu_mem .add
  | add_A_A => exact .alu_reg .add .A
  | adc_A_B => exact .alu_reg .adc .B
  | adc_A_C => exact .alu_reg .adc .C
  | adc_A_D => exact .alu_reg .adc .D
  | adc_A_E => exact .alu_reg .adc .E
  | adc_A_H => exact .alu_reg .adc .H
  | adc_A_L => exact .alu_reg .adc .L
  | adc_A_indHL => exact .alu_mem .adc
  | adc_A_A => exact .alu_reg .adc .A
  | sub_B => exact .alu_reg .sub .B
  | sub_C => exact .alu_reg .sub .C
  | sub_D => exact .alu_reg .sub .D
  | sub_E => exact .alu_reg .sub .E
  | sub_H => exact .alu_reg .sub .H
  | sub_L => exact .alu_reg .sub .L
  | sub_indHL => exact .alu_mem .sub
  | sub_A => exact .alu_reg .sub .A
  | sbc_A_B => exact .alu_reg .sbc .B
  | sbc_A_C => exact .alu_reg .sbc .C
  | sbc_A_D => exact .alu_reg .sbc .D
  | sbc_A_E => exact .alu_reg .sbc .E
  | sbc_A_H => exact .alu_reg .sbc .H
  | sbc_A_L => exact .alu_reg .sbc .L
  | sbc_A_indHL => exact .alu_mem .sbc
  | sbc_A_A => exact .alu_reg .sbc .A
  | and_B => exact .alu_reg .and .B
  | and_C => exact .alu_reg .and .C
  | and_D => exact .alu_reg .and .D
  | and_E => exact .alu_reg .and .E
  | and_H => exact .alu_reg .and .H
  | and_L => exact .alu_reg .and .L
  | and_indHL => exact .alu_mem .and
  | and_A => exact .alu_reg .and .A
  | xor_B => exact .alu_reg .xor .B
  | xor_C => exact .alu_reg .xor .C
  | xor_D => exact .alu_reg .xor .D
  | xor_E => exact .alu_reg .xor .E
  | xor_H => exact .alu_reg .xor .H
  | xor_L => exact .alu_reg .xor .L
  | xor_indHL => exact .alu_mem .xor
  | xor_A => exact .alu_reg .xor .A
  | or_B => exact .alu_reg .or .B
  | or_C => exact .alu_reg .or .C
  | or_D => exact .alu_reg .or .D
  | or_E => exact .alu_reg .or .E
  | or_H => exact .alu_reg .or .H
  | or_L => exact .alu_reg .or .L
  | or_indHL => exact .alu_mem .or
  | or_A => exact .alu_reg .or .A
  | cp_B => exact .alu_reg .cp .B
  | cp_C => exact .alu_reg .cp .C
  | cp_D => exact .alu_reg .cp .D
  | cp_E => exact .alu_reg .cp .E
  | cp_H => exact .alu_reg .cp .H
  | cp_L => exact .alu_reg .cp .L
  | cp_indHL => exact .alu_mem .cp
  | cp_A => exact .alu_reg .cp .A
  | inc_BC => exact .incPair .BC
  | add_HL_BC => exact .addHL .BC
  | dec_BC => exact .decPair .BC
  | inc_DE => exact .incPair .DE
  | add_HL_DE => exact .addHL .DE
  | dec_DE => exact .decPair .DE
  | inc_HL => exact .incPair .HL
  | add_HL_HL => exact .addHL .HL
  | dec_HL => exact .decPair .HL
  | inc_SP => exact .incPair .SP
  | add_HL_SP => exact .addHL .SP
  | dec_SP => exact .decPair .SP
  | rlca => exact .rlca
  | rrca => exact .rrca
  | rla => exact .rla
  | rra => exact .rra
  | rlc_B => exact .shift_reg .rlc .B
  | rlc_C => exact .shift_reg .rlc .C
  | rlc_D => exact .shift_reg .rlc .D
  | rlc_E => exact .shift_reg .rlc .E
  | rlc_H => exact .shift_reg .rlc .H
  | rlc_L => exact .shift_reg .rlc .L
  | rlc_indHL => exact .shift_mem .rlc
  | rlc_A => exact .shift_reg .rlc .A
  | rrc_B => exact .shift_reg .rrc .B
  | rrc_C => exact .shift_reg .rrc .C
  | rrc_D => exact .shift_reg .rrc .D
  | rrc_E => exact .shift_reg .rrc .E
  | rrc_H => exact .shift_reg .rrc .H
  | rrc_L => exact .shift_reg .rrc .L
  | rrc_indHL => exact .shift_mem .rrc
  | rrc_A => exact .shift_reg .rrc .A
  | rl_B => exact .shift_reg .rl .B
  | rl_C => exact .shift_reg .rl .C
  | rl_D => exact .shift_reg .rl .D
  | rl_E => exact .shift_reg .rl .E
  | rl_H => exact .shift_reg .rl .H
  | rl_L => exact .shift_reg .rl .L
  | rl_indHL => exact .shift_mem .rl
  | rl_A => exact .shift_reg .rl .A
  | rr_B => exact .shift_reg .rr .B
  | rr_C => exact .shift_reg .rr .C
  | rr_D => exact .shift_reg .rr .D
  | rr_E => exact .shift_reg .rr .E
  | rr_H => exact .shift_reg .rr .H
  | rr_L => exact .shift_reg .rr .L
  | rr_indHL => exact .shift_mem .rr
  | rr_A => exact .shift_reg .rr .A
  | sla_B => exact .shift_reg .sla .B
  | sla_C => exact .shift_reg .sla .C
  | sla_D => exact .shift_reg .sla .D
  | sla_E => exact .shift_reg .sla .E
  | sla_H => exact .shift_reg .sla .H
  | sla_L => exact .shift_reg .sla .L
  | sla_indHL => exact .shift_mem .sla
  | sla_A => exact .shift_reg .sla .A
  | sra_B => exact .shift_reg .sra .B
  | sra_C => exact .shift_reg .sra .C
  | sra_D => exact .shift_reg .sra .D
  | sra_E => exact .shift_reg .sra .E
  | sra_H => exact .shift_reg .sra .H
  | sra_L => exact .shift_reg .sra .L
  | sra_indHL => exact .shift_mem .sra
  | sra_A => exact .shift_reg .sra .A
  | swap_B => exact .shift_reg .swap .B
  | swap_C => exact .shift_reg .swap .C
  | swap_D => exact .shift_reg .swap .D
  | swap_E => exact .shift_reg .swap .E
  | swap_H => exact .shift_reg .swap .H
  | swap_L => exact .shift_reg .swap .L
  | swap_indHL => exact .shift_mem .swap
  | swap_A => exact .shift_reg .swap .A
  | srl_B => exact .shift_reg .srl .B
  | srl_C => exact .shift_reg .srl .C
  | srl_D => exact .shift_reg .srl .D
  | srl_E => exact .shift_reg .srl .E
  | srl_H => exact .shift_reg .srl .H
  | srl_L => exact .shift_reg .srl .L
  | srl_indHL => exact .shift_mem .srl
  | srl_A => exact .shift_reg .srl .A
  | bit_0_B => exact .bit_reg 0 .B
  | bit_0_C => exact .bit_reg 0 .C
  | bit_0_D => exact .bit_reg 0 .D
  | bit_0_E => exact .bit_reg 0 .E
  | bit_0_H => exact .bit_reg 0 .H
  | bit_0_L => exact .bit_reg 0 .L
  | bit_0_indHL => exact .bit_mem 0
  | bit_0_A => exact .bit_reg 0 .A
  | bit_1_B => exact .bit_reg 1 .B
  | bit_1_C => exact .bit_reg 1 .C
  | bit_1_D => exact .bit_reg 1 .D
  | bit_1_E => exact .bit_reg 1 .E
  | bit_1_H => exact .bit_reg 1 .H
  | bit_1_L => exact .bit_reg 1 .L
  | bit_1_indHL => exact .bit_mem 1
  | bit_1_A => exact .bit_reg 1 .A
  | bit_2_B => exact .bit_reg 2 .B
  | bit_2_C => exact .bit_reg 2 .C
  | bit_2_D => exact .bit_reg 2 .D
  | bit_2_E => exact .bit_reg 2 .E
  | bit_2_H => exact .bit_reg 2 .H
  | bit_2_L => exact .bit_reg 2 .L
  | bit_2_indHL => exact .bit_mem 2
  | bit_2_A => exact .bit_reg 2 .A
  | bit_3_B => exact .bit_reg 3 .B
  | bit_3_C => exact .bit_reg 3 .C
  | bit_3_D => exact .bit_reg 3 .D
  | bit_3_E => exact .bit_reg 3 .E
  | bit_3_H => exact .bit_reg 3 .H
  | bit_3_L => exact .bit_reg 3 .L
  | bit_3_indHL => exact .bit_mem 3
  | bit_3_A => exact .bit_reg 3 .A
  | bit_4_B => exact .bit_reg 4 .B
  | bit_4_C => exact .bit_reg 4 .C
  | bit_4_D => exact .bit_reg 4 .D
  | bit_4_E => exact .bit_reg 4 .E
  | bit_4_H => exact .bit_reg 4 .H
  | bit_4_L => exact .bit_reg 4 .L
  | bit_4_indHL => exact .bit_mem 4
  | bit_4_A => exact .bit_reg 4 .A
  | bit_5_B => exact .bit_reg 5 .B
  | bit_5_C => exact .bit_reg 5 .C
  | bit_5_D => exact .bit_reg 5 .D
  | bit_5_E => exact .bit_reg 5 .E
  | bit_5_H => exact .bit_reg 5 .H
  | bit_5_L => exact .bit_reg 5 .L
  | bit_5_indHL => exact .bit_mem 5
  | bit_5_A => exact .bit_reg 5 .A
  | bit_6_B => exact .bit_reg 6 .B
  | bit_6_C => exact .bit_reg 6 .C
  | bit_6_D => exact .bit_reg 6 .D
  | bit_6_E => exact .bit_reg 6 .E
  | bit_6_H => exact .bit_reg 6 .H
  | bit_6_L => exact .bit_reg 6 .L
  | bit_6_indHL => exact .bit_mem 6
  | bit_6_A => exact .bit_reg 6 .A
  | bit_7_B => exact .bit_reg 7 .B
  | bit_7_C => exact .bit_reg 7 .C
  | bit_7_D => exact .bit_reg 7 .D
  | bit_7_E => exact .bit_reg 7 .E
  | bit_7_H => exact .bit_reg 7 .H
  | bit_7_L => exact .bit_reg 7 .L
  | bit_7_indHL => exact .bit_mem 7
  | bit_7_A => exact .bit_reg 7 .A
  | res_0_B => exact .res_reg 0 .B
  | res_0_C => exact .res_reg 0 .C
  | res_0_D => exact .res_reg 0 .D
  | res_0_E => exact .res_reg 0 .E
  | res_0_H => exact .res_reg 0 .H
  | res_0_L => exact .res_reg 0 .L
  | res_0_indHL => exact .res_mem 0
  | res_0_A => exact .res_reg 0 .A
  | res_1_B => exact .res_reg 1 .B
  | res_1_C => exact .res_reg 1 .C
  | res_1_D => exact .res_reg 1 .D
  | res_1_E => exact .res_reg 1 .E
  | res_1_H => exact .res_reg 1 .H
  | res_1_L => exact .res_reg 1 .L
  | res_1_indHL => exact .res_mem 1
  | res_1_A => exact .res_reg 1 .A
  | res_2_B => exact .res_reg 2 .B
  | res_2_C => exact .res_reg 2 .C
  | res_2_D => exact .res_reg 2 .D
  | res_2_E => exact .res_reg 2 .E
  | res_2_H => exact .res_reg 2 .H
  | res_2_L => exact .res_reg 2 .L
  | res_2_indHL => exact .res_mem 2
  | res_2_A => exact .res_reg 2 .A
  | res_3_B => exact .res_reg 3 .B
  | res_3_C => exact .res_reg 3 .C
  | res_3_D => exact .res_reg 3 .D
  | res_3_E => exact .res_reg 3 .E
  | res_3_H => exact .res_reg 3 .H
  | res_3_L => exact .res_reg 3 .L
  | res_3_indHL => exact .res_mem 3
  | res_3_A => exact .res_reg 3 .A
  | res_4_B => exact .res_reg 4 .B
  | res_4_C => exact .res_reg 4 .C
  | res_4_D => exact .res_reg 4 .D
  | res_4_E => exact .res_reg 4 .E
  | res_4_H => exact .res_reg 4 .H
  | res_4_L => exact .res_reg 4 .L
  | res_4_indHL => exact .res_mem 4
  | res_4_A => exact .res_reg 4 .A
  | res_5_B => exact .res_reg 5 .B
  | res_5_C => exact .res_reg 5 .C
  | res_5_D => exact .res_reg 5 .D
  | res_5_E => exact .res_reg 5 .E
  | res_5_H => exact .res_reg 5 .H
  | res_5_L => exact .res_reg 5 .L
  | res_5_indHL => exact .res_mem 5
  | res_5_A => exact .res_reg 5 .A
  | res_6_B => exact .res_reg 6 .B
  | res_6_C => exact .res_reg 6 .C
  | res_6_D => exact .res_reg 6 .D
  | res_6_E => exact .res_reg 6 .E
  | res_6_H => exact .res_reg 6 .H
  | res_6_L => exact .res_reg 6 .L
  | res_6_indHL => exact .res_mem 6
  | res_6_A => exact .res_reg 6 .A
  | res_7_B => exact .res_reg 7 .B
  | res_7_C => exact .res_reg 7 .C
  | res_7_D => exact .res_reg 7 .D
  | res_7_E => exact .res_reg 7 .E
  | res_7_H => exact .res_reg 7 .H
  | res_7_L => exact .res_reg 7 .L
  | res_7_indHL => exact .res_mem 7
  | res_7_A => exact .res_reg 7 .A
  | set_0_B => exact .set_reg 0 .B
  | set_0_C => exact .set_reg 0 .C
  | set_0_D => exact .set_reg 0 .D
  | set_0_E => exact .set_reg 0 .E
  | set_0_H => exact .set_reg 0 .H
  | set_0_L => exact .set_reg 0 .L
  | set_0_indHL => exact .set_mem 0
  | set_0_A => exact .set_reg 0 .A
  | set_1_B => exact .set_reg 1 .B
  | set_1_C => exact .set_reg 1 .C
  | set_1_D => exact .set_reg 1 .D
  | set_1_E => exact .set_reg 1 .E
  | set_1_H => exact .set_reg 1 .H
  | set_1_L => exact .set_reg 1 .L
  | set_1_indHL => exact .set_mem 1
  | set_1_A => exact .set_reg 1 .A
  | set_2_B => exact .set_reg 2 .B
  | set_2_C => exact .set_reg 2 .C
  | set_2_D => exact .set_reg 2 .D
  | set_2_E => exact .set_reg 2 .E
  | set_2_H => exact .set_reg 2 .H
  | set_2_L => exact .set_reg 2 .L
  | set_2_indHL => exact .set_mem 2
  | set_2_A => exact .set_reg 2 .A
  | set_3_B => exact .set_reg 3 .B
  | set_3_C => exact .set_reg 3 .C
  | set_3_D => exact .set_reg 3 .D
  | set_3_E => exact .set_reg 3 .E
  | set_3_H => exact .set_reg 3 .H
  | set_3_L => exact .set_reg 3 .L
  | set_3_indHL => exact .set_mem 3
  | set_3_A => exact .set_reg 3 .A
  | set_4_B => exact .set_reg 4 .B
  | set_4_C => exact .set_reg 4 .C
  | set_4_D => exact .set_reg 4 .D
  | set_4_E => exact .set_reg 4 .E
  | set_4_H => exact .set_reg 4 .H
  | set_4_L => exact .set_reg 4 .L
  | set_4_indHL => exact .set_mem 4
  | set_4_A => exact .set_reg 4 .A
  | set_5_B => exact .set_reg 5 .B
  | set_5_C => exact .set_reg 5 .C
  | set_5_D => exact .set_reg 5 .D
  | set_5_E => exact .set_reg 5 .E
  | set_5_H => exact .set_reg 5 .H
  | set_5_L => exact .set_reg 5 .L
  | set_5_indHL => exact .set_mem 5
  | set_5_A => exact .set_reg 5 .A
  | set_6_B => exact .set_reg 6 .B
  | set_6_C => exact .set_reg 6 .C
  | set_6_D => exact .set_reg 6 .D
  | set_6_E => exact .set_reg 6 .E
  | set_6_H => exact .set_reg 6 .H
  | set_6_L => exact .set_reg 6 .L
  | set_6_indHL => exact .set_mem 6
  | set_6_A => exact .set_reg 6 .A
  | set_7_B => exact .set_reg 7 .B
  | set_7_C => exact .set_reg 7 .C
  | set_7_D => exact .set_reg 7 .D
  | set_7_E => exact .set_reg 7 .E
  | set_7_H => exact .set_reg 7 .H
  | set_7_L => exact .set_reg 7 .L
  | set_7_indHL => exact .set_mem 7
  | set_7_A => exact .set_reg 7 .A
  | ret_NZ => exact .retCond .NZ
  | rst_00H => exact .rst 0
  | ret_Z => exact .retCond .Z
  | ret => exact .ret
  | rst_08H => exact .rst 1
  | ret_NC => exact .retCond .NC
  | rst_10H => exact .rst 2
  | ret_C => exact .retCond .C
  | reti => exact .reti
  | rst_18H => exact .rst 3
  | rst_20H => exact .rst 4
  | jp_HL => exact .jp_HL
  | rst_28H => exact .rst 5
  | rst_30H => exact .rst 6
  | rst_38H => exact .rst 7
  | nop => exact .nop
  | halt => exact .halt
  | unassigned_D3 => exact .unassigned (0xD3#8, .unassigned_D3) (by decide)
  | unassigned_DB => exact .unassigned (0xDB#8, .unassigned_DB) (by decide)
  | unassigned_DD => exact .unassigned (0xDD#8, .unassigned_DD) (by decide)
  | unassigned_E3 => exact .unassigned (0xE3#8, .unassigned_E3) (by decide)
  | unassigned_E4 => exact .unassigned (0xE4#8, .unassigned_E4) (by decide)
  | unassigned_EB => exact .unassigned (0xEB#8, .unassigned_EB) (by decide)
  | unassigned_EC => exact .unassigned (0xEC#8, .unassigned_EC) (by decide)
  | unassigned_ED => exact .unassigned (0xED#8, .unassigned_ED) (by decide)
  | di => exact .di
  | unassigned_F4 => exact .unassigned (0xF4#8, .unassigned_F4) (by decide)
  | ei => exact .ei
  | unassigned_FC => exact .unassigned (0xFC#8, .unassigned_FC) (by decide)
  | unassigned_FD => exact .unassigned (0xFD#8, .unassigned_FD) (by decide)

end Sys2Proof
end

