-- ==== Sys2Proof/Laws/Effect.lean ====
section
/-! SUPPORT. Everything that an instruction can do, said once: it raises a fault and changes nothing else, or it makes its
stores on the bus and updates the CPU's own fields. The statements about every instruction and about a step follow from
this one case split. -/
namespace Sys2Proof.Machine

/-- The bus writes of a list, in order. -/
def State.writes (s : State) (ws : List (Word × Byte)) : State := ws.foldl (fun t w => t.busWrite w.1 w.2) s

/-- The stores of one instruction: at most two, and two are at neighbouring addresses. -/
def Neighbours : List (Word × Byte) → Prop
  | [] => True
  | [_] => True
  | [v, w] => w.1.toNat = v.1.toNat + 1 ∨ v.1.toNat = w.1.toNat + 1
  | _ => False

/-- What `exec i s` can answer: the state with a fault recorded, or the state after the stores `ws` with the CPU's own
fields updated. `b` is the overlay flag after the reads (20_memory.md R74); `n` is the cost. -/
inductive ExecEffect (i : Instr) (s : State) : State → Prop where
  | raised (f : Fault) (b : Bool) (hb : b = true → s.bootActive = true) :
    ExecEffect i s { s with fault := some f, bootActive := b }
  | done (ws : List (Word × Byte)) (b : Bool) (n : Nat) (t : State) (hws : ws.map Prod.fst = i.storeAddrs s)
    (hseq : Neighbours ws) (hb : b = true → s.bootActive = true) (hn : t.clkTotal = s.clkTotal + n ∧ 4 ≤ n ∧ n ≤ 24)
    (hflags : i.writesFlags = false → t.flags = s.flags)
    (hime : i ≠ .di → i ≠ .reti → t.ime = s.ime)
    (hei : i ≠ .di → i ≠ .reti → i ≠ .ei → t.eiPending = s.eiPending)
    (hrun : i ≠ .halt → (∀ x, i ≠ .stop x) → t.run = s.run)
    (ht : t = { State.writes { s with bootActive := b } ws with
      regs := t.regs, flags := t.flags, sp := t.sp, pc := t.pc, clkTotal := t.clkTotal
      ime := t.ime, eiPending := t.eiPending, run := t.run }) :
    ExecEffect i s t

variable {s : State} {i : Instr}

/-- An instruction that stores nothing and does not raise. -/
theorem ExecEffect.pure {t : State} (b : Bool) (n : Nat) (hws : i.storeAddrs s = [])
    (hb : b = true → s.bootActive = true) (hn : t.clkTotal = s.clkTotal + n ∧ 4 ≤ n ∧ n ≤ 24) (hflags : i.writesFlags = false → t.flags = s.flags)
    (hime : i ≠ .di → i ≠ .reti → t.ime = s.ime)
    (hei : i ≠ .di → i ≠ .reti → i ≠ .ei → t.eiPending = s.eiPending)
    (hrun : i ≠ .halt → (∀ x, i ≠ .stop x) → t.run = s.run)
    (ht : t = { s with
      regs := t.regs, flags := t.flags, sp := t.sp, pc := t.pc, clkTotal := t.clkTotal, bootActive := b
      ime := t.ime, eiPending := t.eiPending, run := t.run }) : ExecEffect i s t :=
  .done [] b n t hws.symm trivial hb hn hflags hime hei hrun ht

/-- A bus read returns a byte or raises, and may switch the overlay off. -/
theorem State.busRead_cases (s : State) (a : Word) : ∃ b, (b = true → s.bootActive = true) ∧
    ((∃ v, s.busRead a = .ok v { s with bootActive := b }) ∨
      ∃ f, s.busRead a = .raised { s with fault := some f, bootActive := b }) := by
  refine ⟨s.bootActive && decide (a ≠ 0x0100#16), by simp +contextual, ?_⟩
  unfold State.busRead
  rw [State.afterRead_eq]
  split
  · exact .inl ⟨_, rfl⟩
  · exact .inr ⟨_, rfl⟩

/-- A pop returns a word and moves `sp`, or raises. -/
theorem State.pop16_cases (s : State) : ∃ b, (b = true → s.bootActive = true) ∧
    ((∃ v, s.pop16 = .ok v { s with bootActive := b, sp := s.sp + 2 }) ∨
      ∃ f, s.pop16 = .raised { s with fault := some f, bootActive := b }) := by
  unfold State.pop16
  split
  · exact ⟨s.bootActive, id, .inr ⟨_, rfl⟩⟩
  · obtain ⟨b, hb, ⟨v, h⟩ | ⟨f, h⟩⟩ := s.busRead_cases s.sp
    · rw [h]
      simp only [Access.andThen]
      obtain ⟨b', hb', ⟨v', h'⟩ | ⟨f', h'⟩⟩ := State.busRead_cases { s with bootActive := b } (s.sp + 1)
      · exact ⟨b', fun x => hb (hb' x), .inl ⟨wordOf v' v, by rw [h']; rfl⟩⟩
      · exact ⟨b', fun x => hb (hb' x), .inr ⟨f', by rw [h']⟩⟩
    · exact ⟨b, hb, .inr ⟨f, by rw [h]; rfl⟩⟩

/-- A meaning that reads one byte first: it raises, or what it does with the byte has the effect. -/
theorem ExecEffect.read (a : Word) (k : Byte → State → State)
    (h : ∀ v b, (b = true → s.bootActive = true) → ExecEffect i s (k v { s with bootActive := b })) :
    ∃ t, (s.busRead a).finish k = .next t ∧ ExecEffect i s t := by
  obtain ⟨b, hb, ⟨v, hr⟩ | ⟨f, hr⟩⟩ := s.busRead_cases a <;> rw [hr]
  · exact ⟨_, rfl, h v b hb⟩
  · exact ⟨_, rfl, .raised f b hb⟩

/-- A meaning that pops a word first. -/
theorem ExecEffect.pop (k : Word → State → State)
    (h : ∀ v b, (b = true → s.bootActive = true) →
      ExecEffect i s (k v { s with bootActive := b, sp := s.sp + 2 })) :
    ∃ t, s.pop16.finish k = .next t ∧ ExecEffect i s t := by
  obtain ⟨b, hb, ⟨v, hr⟩ | ⟨f, hr⟩⟩ := s.pop16_cases <;> rw [hr]
  · exact ⟨_, rfl, h v b hb⟩
  · exact ⟨_, rfl, .raised f b hb⟩

/-- A meaning that pushes a word first. -/
theorem ExecEffect.push (v : Word) (k : Unit → State → State)
    (h : ¬ s.sp < 0x0002#16 →
      ExecEffect i s (k () (((s.busWrite (s.sp - 1) (hiByte v)).busWrite (s.sp - 2) (loByte v)).setSp (s.sp - 2)))) :
    ∃ t, (s.push16 v).finish k = .next t ∧ ExecEffect i s t := by
  unfold State.push16
  split
  · exact ⟨_, rfl, .raised _ s.bootActive id⟩
  · next hs => exact ⟨_, rfl, h hs⟩

theorem State.pushAddrs_of_room (h : ¬ s.sp < 0x0002#16) : s.pushAddrs = [s.sp - 1, s.sp - 2] := by
  simp [State.pushAddrs, h]

/-- An ALU operation writes `A` and the flags alone. -/
theorem State.applyAlu_eq (s : State) (op : AluOp) (v : Byte) :
    s.applyAlu op v = { s with
      regs := if op = .cp then s.regs else { s.regs with a := (alu8 op s.regs.a v s.flags.c).1 }
      flags := (alu8 op s.regs.a v s.flags.c).2 } := by
  cases op <;> rfl

theorem State.setPair_eq (s : State) (rr : Pair) (v : Word) :
    s.setPair rr v = { s with regs := (s.setPair rr v).regs, sp := (s.setPair rr v).sp } := by cases rr <;> rfl

theorem State.setStackPair_eq (s : State) (qq : StackPair) (v : Word) :
    s.setStackPair qq v = { s with regs := (s.setStackPair qq v).regs, flags := (s.setStackPair qq v).flags } := by
  cases qq <;> rfl

/-- Two stores above the stack pointer, then updates of the CPU's own fields. -/
theorem ExecEffect.pushed {t : State} {x y : Byte} (n : Nat) (hs : ¬ s.sp < 0x0002#16)
    (hws : i.storeAddrs s = s.pushAddrs) (hn : t.clkTotal = s.clkTotal + n ∧ 4 ≤ n ∧ n ≤ 24) (hflags : t.flags = s.flags) (hime : t.ime = s.ime)
    (hei : t.eiPending = s.eiPending) (hrun : t.run = s.run)
    (ht : t = { (s.busWrite (s.sp - 1) x).busWrite (s.sp - 2) y with
      regs := t.regs, flags := t.flags, sp := t.sp, pc := t.pc, clkTotal := t.clkTotal
      ime := t.ime, eiPending := t.eiPending, run := t.run }) : ExecEffect i s t :=
  .done [(s.sp - 1, x), (s.sp - 2, y)] s.bootActive n t (by rw [hws, State.pushAddrs_of_room hs]; rfl)
    (.inr (by
      have h2 : ¬ s.sp.toNat < 2 := by rwa [BitVec.lt_def] at hs
      simp only [BitVec.toNat_sub]; simp; omega)) id hn
    (fun _ => hflags) (fun _ _ => hime) (fun _ _ _ => hei) (fun _ _ => hrun) ht

/-- One store, then updates of the CPU's own fields. -/
theorem ExecEffect.stored {t : State} {a : Word} {x : Byte} (b : Bool) (n : Nat) (hws : i.storeAddrs s = [a])
    (hb : b = true → s.bootActive = true) (hn : t.clkTotal = s.clkTotal + n ∧ 4 ≤ n ∧ n ≤ 24) (hflags : i.writesFlags = false → t.flags = s.flags)
    (hime : t.ime = s.ime) (hei : t.eiPending = s.eiPending) (hrun : t.run = s.run)
    (ht : t = { State.busWrite { s with bootActive := b } a x with
      regs := t.regs, flags := t.flags, sp := t.sp, pc := t.pc, clkTotal := t.clkTotal
      ime := t.ime, eiPending := t.eiPending, run := t.run }) : ExecEffect i s t :=
  .done [(a, x)] b n t (by rw [hws]; rfl) trivial hb hn hflags (fun _ _ => hime) (fun _ _ _ => hei) (fun _ _ => hrun) ht

/-- The effect of a return. -/
theorem returnNow_effect (n : Nat) (hws : i.storeAddrs s = []) (hn : 4 ≤ n ∧ n ≤ 24) :
    ∃ t, returnNow n s = .next t ∧ ExecEffect i s t := by
  unfold returnNow State.returnFrom
  obtain ⟨b, hb, ⟨v, hr⟩ | ⟨f, hr⟩⟩ := s.pop16_cases <;> rw [hr]
  · exact ⟨_, rfl, .pure b n hws hb ⟨rfl, hn⟩ (fun _ => rfl) (fun _ _ => rfl) (fun _ _ _ => rfl) (fun _ _ => rfl) rfl⟩
  · exact ⟨_, rfl, .raised f b hb⟩

/-- What every instruction but the row `PREFIX CB` can do. -/
theorem exec_effect_of_shape (s : State) {i : Instr} (h : i.Shape) (hp : ∀ x, i ≠ .prefix_CB x) :
    ∃ t, exec i s = .next t ∧ ExecEffect i s t := by
  cases h with
  | ld_reg d r =>
    rw [exec_ld_reg]
    exact ⟨_, rfl, .pure s.bootActive 4 (by cases d <;> cases r <;> rfl) id ⟨rfl, by omega, by omega⟩ (fun _ => rfl)
      (fun _ _ => rfl) (fun _ _ _ => rfl) (fun _ _ => rfl) rfl⟩
  | ld_reg_mem d =>
    rw [exec_ld_reg_mem]
    exact ExecEffect.read _ _ fun v b hb => 
      .pure b 8 (by cases d <;> rfl) hb ⟨rfl, by omega, by omega⟩ (fun _ => rfl)
        (fun _ _ => rfl) (fun _ _ _ => rfl) (fun _ _ => rfl) rfl
  | ld_mem_reg r =>
    rw [exec_ld_mem_reg]
    exact ⟨_, rfl, .stored (x := s.reg r) s.bootActive 8 (by cases r <;> rfl) id ⟨by simp, by omega, by omega⟩ (fun _ => by simp)
      (by simp) (by simp) (by simp) rfl⟩
  | ldImm_reg d d8 =>
    rw [exec_ldImm_reg]
    exact ⟨_, rfl, .pure s.bootActive 8 (by cases d <;> rfl) id ⟨rfl, by omega, by omega⟩ (fun _ => rfl)
      (fun _ _ => rfl) (fun _ _ _ => rfl) (fun _ _ => rfl) rfl⟩
  | alu_reg op r =>
    rw [exec_alu_reg, aluReg, State.applyAlu_eq]
    exact ⟨_, rfl, .pure s.bootActive 4 (by cases op <;> cases r <;> rfl) id ⟨rfl, by omega, by omega⟩ (fun h => absurd h (by cases op <;> cases r <;> decide))
      (fun _ _ => rfl) (fun _ _ _ => rfl) (fun _ _ => rfl) rfl⟩
  | alu_mem op =>
    rw [exec_alu_mem]
    exact ExecEffect.read _ _ fun v b hb => by
      rw [State.applyAlu_eq]
      exact .pure b 8 (by cases op <;> rfl) hb ⟨rfl, by omega, by omega⟩ (fun h => absurd h (by cases op <;> decide))
        (fun _ _ => rfl) (fun _ _ _ => rfl) (fun _ _ => rfl) rfl
  | aluImm op d8 =>
    rw [exec_aluImm, aluImm, State.applyAlu_eq]
    exact ⟨_, rfl, .pure s.bootActive 8 (by cases op <;> rfl) id ⟨rfl, by omega, by omega⟩ (fun h => by cases op <;> cases h)
      (fun _ _ => rfl) (fun _ _ _ => rfl) (fun _ _ => rfl) rfl⟩
  | shift_reg op r =>
    rw [exec_shift_reg]
    exact ⟨_, rfl, .pure s.bootActive 8 (by cases op <;> cases r <;> rfl) id ⟨rfl, by omega, by omega⟩ (fun h => absurd h (by cases op <;> cases r <;> decide))
      (fun _ _ => rfl) (fun _ _ _ => rfl) (fun _ _ => rfl) rfl⟩
  | shift_mem op =>
    rw [exec_shift_mem]
    exact ExecEffect.read _ _ fun v b hb =>
      .stored (x := (shift8 op v s.flags.c).1) b 16 (by cases op <;> rfl) hb ⟨by simp, by omega, by omega⟩ (fun h => absurd h (by cases op <;> decide)) (by simp)
        (by simp) (by simp) rfl
  | bit_reg b r =>
    rw [exec_bit_reg]
    exact ⟨_, rfl, .pure s.bootActive 8 (by fin_cases b <;> cases r <;> rfl) id ⟨rfl, by omega, by omega⟩ (fun h => absurd h (by fin_cases b <;> cases r <;> decide))
      (fun _ _ => rfl) (fun _ _ _ => rfl) (fun _ _ => rfl) rfl⟩
  | bit_mem n =>
    rw [exec_bit_mem]
    exact ExecEffect.read _ _ fun v b hb => 
      .pure b 12 (by fin_cases n <;> rfl) hb ⟨rfl, by omega, by omega⟩ (fun h => absurd h (by fin_cases n <;> decide))
        (fun _ _ => rfl) (fun _ _ _ => rfl) (fun _ _ => rfl) rfl
  | res_reg b r =>
    rw [exec_res_reg]
    exact ⟨_, rfl, .pure s.bootActive 8 (by fin_cases b <;> cases r <;> rfl) id ⟨rfl, by omega, by omega⟩ (fun _ => rfl)
      (fun _ _ => rfl) (fun _ _ _ => rfl) (fun _ _ => rfl) rfl⟩
  | res_mem n =>
    rw [exec_res_mem]
    exact ExecEffect.read _ _ fun v b hb =>
      .stored (x := resBit n v) b 16 (by fin_cases n <;> rfl) hb ⟨by simp, by omega, by omega⟩ (fun _ => by simp) (by simp)
        (by simp) (by simp) rfl
  | set_reg b r =>
    rw [exec_set_reg]
    exact ⟨_, rfl, .pure s.bootActive 8 (by fin_cases b <;> cases r <;> rfl) id ⟨rfl, by omega, by omega⟩ (fun _ => rfl)
      (fun _ _ => rfl) (fun _ _ _ => rfl) (fun _ _ => rfl) rfl⟩
  | set_mem n =>
    rw [exec_set_mem]
    exact ExecEffect.read _ _ fun v b hb =>
      .stored (x := setBit n v) b 16 (by fin_cases n <;> rfl) hb ⟨by simp, by omega, by omega⟩ (fun _ => by simp) (by simp)
        (by simp) (by simp) rfl
  | inc_reg r =>
    rw [exec_inc_reg]
    exact ⟨_, rfl, .pure s.bootActive 4 (by cases r <;> rfl) id ⟨rfl, by omega, by omega⟩ (fun h => absurd h (by cases r <;> decide))
      (fun _ _ => rfl) (fun _ _ _ => rfl) (fun _ _ => rfl) rfl⟩
  | dec_reg r =>
    rw [exec_dec_reg]
    exact ⟨_, rfl, .pure s.bootActive 4 (by cases r <;> rfl) id ⟨rfl, by omega, by omega⟩ (fun h => absurd h (by cases r <;> decide))
      (fun _ _ => rfl) (fun _ _ _ => rfl) (fun _ _ => rfl) rfl⟩
  | ldPair rr d16 =>
    rw [exec_ldPair, loadPairImm, State.setPair_eq]
    exact ⟨_, rfl, .pure s.bootActive 12 (by cases rr <;> rfl) id ⟨rfl, by omega, by omega⟩ (fun _ => rfl)
      (fun _ _ => rfl) (fun _ _ _ => rfl) (fun _ _ => rfl) rfl⟩
  | addHL rr =>
    rw [exec_addHL]
    exact ⟨_, rfl, .pure s.bootActive 8 (by cases rr <;> rfl) id ⟨rfl, by omega, by omega⟩ (fun h => absurd h (by cases rr <;> decide))
      (fun _ _ => rfl) (fun _ _ _ => rfl) (fun _ _ => rfl) rfl⟩
  | incPair rr =>
    rw [exec_incPair, Sys2Proof.Machine.incPair, State.setPair_eq]
    exact ⟨_, rfl, .pure s.bootActive 8 (by cases rr <;> rfl) id ⟨rfl, by omega, by omega⟩ (fun _ => rfl)
      (fun _ _ => rfl) (fun _ _ _ => rfl) (fun _ _ => rfl) rfl⟩
  | decPair rr =>
    rw [exec_decPair, Sys2Proof.Machine.decPair, State.setPair_eq]
    exact ⟨_, rfl, .pure s.bootActive 8 (by cases rr <;> rfl) id ⟨rfl, by omega, by omega⟩ (fun _ => rfl)
      (fun _ _ => rfl) (fun _ _ _ => rfl) (fun _ _ => rfl) rfl⟩
  | push qq =>
    rw [exec_push]
    exact ExecEffect.push (s.stackPair qq) _ fun h => .pushed 16 h (by cases qq <;> rfl) ⟨by simp, by omega, by omega⟩
      (by simp) (by simp) (by simp) (by simp) rfl
  | pop qq =>
    rw [exec_pop]
    exact ExecEffect.pop _ fun v b hb => by
      rw [State.setStackPair_eq]
      exact .pure b 12 (by cases qq <;> rfl) hb ⟨rfl, by omega, by omega⟩ (fun h => by cases qq <;> first | rfl | cases h)
        (fun _ _ => rfl) (fun _ _ _ => rfl) (fun _ _ => rfl) rfl
  | jr cc e8 =>
    rw [exec_jr]
    refine ⟨_, rfl, ?_⟩
    split
    · exact .pure s.bootActive 12 (by cases cc <;> rfl) id ⟨rfl, by omega, by omega⟩ (fun _ => rfl) (fun _ _ => rfl) (fun _ _ _ => rfl) (fun _ _ => rfl) rfl
    · exact .pure s.bootActive 8 (by cases cc <;> rfl) id ⟨rfl, by omega, by omega⟩ (fun _ => rfl) (fun _ _ => rfl) (fun _ _ _ => rfl) (fun _ _ => rfl) rfl
  | jp cc a16 =>
    rw [exec_jp]
    refine ⟨_, rfl, ?_⟩
    split
    · exact .pure s.bootActive 16 (by cases cc <;> rfl) id ⟨rfl, by omega, by omega⟩ (fun _ => rfl) (fun _ _ => rfl) (fun _ _ _ => rfl) (fun _ _ => rfl) rfl
    · exact .pure s.bootActive 12 (by cases cc <;> rfl) id ⟨rfl, by omega, by omega⟩ (fun _ => rfl) (fun _ _ => rfl) (fun _ _ _ => rfl) (fun _ _ => rfl) rfl
  | call cc a16 =>
    have hs : (Instr.call cc a16).storeAddrs s = if s.flags.holds cc then s.pushAddrs else [] := by cases cc <;> rfl
    rw [exec_call, callCond]
    split
    · next hc =>
      exact ExecEffect.push (s.pc + BitVec.ofNat 16 3) _ fun h => .pushed 24 h (by rw [hs, if_pos hc])
        ⟨by simp, by omega, by omega⟩ (by simp) (by simp) (by simp) (by simp) rfl
    · next hc =>
      exact ⟨_, rfl, .pure s.bootActive 12 (by rw [hs, if_neg hc]) id ⟨rfl, by omega, by omega⟩ (fun _ => rfl)
        (fun _ _ => rfl) (fun _ _ _ => rfl) (fun _ _ => rfl) rfl⟩
  | retCond cc =>
    rw [exec_retCond, returnCond]
    split
    · exact returnNow_effect 20 (by cases cc <;> rfl) (by omega)
    · exact ⟨_, rfl, .pure s.bootActive 8 (by cases cc <;> rfl) id ⟨rfl, by omega, by omega⟩ (fun _ => rfl)
        (fun _ _ => rfl) (fun _ _ _ => rfl) (fun _ _ => rfl) rfl⟩
  | rst y =>
    rw [exec_rst]
    exact ExecEffect.push (s.pc + BitVec.ofNat 16 1) _ fun h => .pushed 16 h (by fin_cases y <;> rfl) ⟨by simp, by omega, by omega⟩
      (by simp) (by simp) (by simp) (by simp) rfl
  | unassigned p h =>
    rw [exec_unassigned s h]
    exact ⟨_, rfl, .raised _ s.bootActive id⟩
  | ld_indHL_d8 d8 =>
    exact ⟨_, rfl, .stored (x := d8) s.bootActive 12 rfl id ⟨by simp, by omega, by omega⟩ (fun _ => by simp)
      (by simp) (by simp) (by simp) rfl⟩
  | ldh_ind_a8_A a8 =>
    exact ⟨_, rfl, .stored (x := s.regs.a) s.bootActive 12 rfl id ⟨by simp, by omega, by omega⟩ (fun _ => by simp)
      (by simp) (by simp) (by simp) rfl⟩
  | ld_ind_a16_A a16 =>
    exact ⟨_, rfl, .stored (x := s.regs.a) s.bootActive 16 rfl id ⟨by simp, by omega, by omega⟩ (fun _ => by simp)
      (by simp) (by simp) (by simp) rfl⟩
  | ldh_A_ind_a8 a8 =>
    exact ExecEffect.read _ _ fun v b hb => 
      .pure b 12 rfl hb ⟨rfl, by omega, by omega⟩ (fun _ => rfl)
        (fun _ _ => rfl) (fun _ _ _ => rfl) (fun _ _ => rfl) rfl
  | ld_A_ind_a16 a16 =>
    exact ExecEffect.read _ _ fun v b hb => 
      .pure b 16 rfl hb ⟨rfl, by omega, by omega⟩ (fun _ => rfl)
        (fun _ _ => rfl) (fun _ _ _ => rfl) (fun _ _ => rfl) rfl
  | ld_ind_a16_SP a16 =>
    have hs : (Instr.ld_ind_a16_SP a16).storeAddrs s = if a16 = 0xFFFF#16 then [] else [a16, a16 + 1] := rfl
    show ∃ t, storeSp a16 s = .next t ∧ _
    unfold storeSp
    by_cases ha : a16 = 0xFFFF#16
    · rw [if_pos ha]
      exact ⟨_, rfl, .raised _ s.bootActive id⟩
    · rw [if_neg ha]
      exact ⟨_, rfl, .done [(a16, loByte s.sp), (a16 + 1, hiByte s.sp)] s.bootActive 20 _ (by rw [hs, if_neg ha]; rfl)
        (.inl (by
          have : a16.toNat ≠ 0xFFFF := fun h => ha (BitVec.eq_of_toNat_eq h)
          have := a16.isLt
          simp only [BitVec.toNat_add]; simp; omega)) id ⟨by simp, by omega, by omega⟩ (fun _ => by simp) (fun _ _ => by simp) (fun _ _ _ => by simp)
        (fun _ _ => by simp) rfl⟩
  | ld_HL_SPe8 e8 =>
    exact ⟨_, rfl, .pure s.bootActive 12 rfl id ⟨rfl, by omega, by omega⟩ (fun h => by cases h)
      (fun _ _ => rfl) (fun _ _ _ => rfl) (fun _ _ => rfl) rfl⟩
  | add_SP_e8 e8 =>
    exact ⟨_, rfl, .pure s.bootActive 16 rfl id ⟨rfl, by omega, by omega⟩ (fun h => by cases h)
      (fun _ _ => rfl) (fun _ _ _ => rfl) (fun _ _ => rfl) rfl⟩
  | jr_e8 e8 =>
    exact ⟨_, rfl, .pure s.bootActive 12 rfl id ⟨rfl, by omega, by omega⟩ (fun _ => rfl)
      (fun _ _ => rfl) (fun _ _ _ => rfl) (fun _ _ => rfl) rfl⟩
  | jp_a16 a16 =>
    exact ⟨_, rfl, .pure s.bootActive 16 rfl id ⟨rfl, by omega, by omega⟩ (fun _ => rfl)
      (fun _ _ => rfl) (fun _ _ _ => rfl) (fun _ _ => rfl) rfl⟩
  | call_a16 a16 =>
    exact ExecEffect.push (s.pc + BitVec.ofNat 16 3) _ fun h => .pushed 24 h rfl ⟨by simp, by omega, by omega⟩
      (by simp) (by simp) (by simp) (by simp) rfl
  | stop x =>
    exact ⟨_, rfl, .pure s.bootActive 4 rfl id ⟨rfl, by omega, by omega⟩ (fun _ => rfl)
      (fun _ _ => rfl) (fun _ _ _ => rfl) (fun _ h => absurd rfl (h x)) rfl⟩
  | prefix_CB op2 => exact absurd rfl (hp op2)
  | ld_indBC_A =>
    exact ⟨_, rfl, .stored (x := s.regs.a) s.bootActive 8 rfl id ⟨by simp, by omega, by omega⟩ (fun _ => by simp)
      (by simp) (by simp) (by simp) rfl⟩
  | ld_A_indBC =>
    exact ExecEffect.read _ _ fun v b hb => 
      .pure b 8 rfl hb ⟨rfl, by omega, by omega⟩ (fun _ => rfl)
        (fun _ _ => rfl) (fun _ _ _ => rfl) (fun _ _ => rfl) rfl
  | ld_indDE_A =>
    exact ⟨_, rfl, .stored (x := s.regs.a) s.bootActive 8 rfl id ⟨by simp, by omega, by omega⟩ (fun _ => by simp)
      (by simp) (by simp) (by simp) rfl⟩
  | ld_A_indDE =>
    exact ExecEffect.read _ _ fun v b hb => 
      .pure b 8 rfl hb ⟨rfl, by omega, by omega⟩ (fun _ => rfl)
        (fun _ _ => rfl) (fun _ _ _ => rfl) (fun _ _ => rfl) rfl
  | ld_indHLinc_A =>
    exact ⟨_, rfl, .stored (x := s.regs.a) s.bootActive 8 rfl id ⟨by simp, by omega, by omega⟩ (fun _ => by simp)
      (by simp) (by simp) (by simp) rfl⟩
  | ld_A_indHLinc =>
    exact ExecEffect.read _ _ fun v b hb => 
      .pure b 8 rfl hb ⟨rfl, by omega, by omega⟩ (fun _ => rfl)
        (fun _ _ => rfl) (fun _ _ _ => rfl) (fun _ _ => rfl) rfl
  | ld_indHLdec_A =>
    exact ⟨_, rfl, .stored (x := s.regs.a) s.bootActive 8 rfl id ⟨by simp, by omega, by omega⟩ (fun _ => by simp)
      (by simp) (by simp) (by simp) rfl⟩
  | ld_A_indHLdec =>
    exact ExecEffect.read _ _ fun v b hb => 
      .pure b 8 rfl hb ⟨rfl, by omega, by omega⟩ (fun _ => rfl)
        (fun _ _ => rfl) (fun _ _ _ => rfl) (fun _ _ => rfl) rfl
  | ld_indC_A =>
    exact ⟨_, rfl, .stored (x := s.regs.a) s.bootActive 8 rfl id ⟨by simp, by omega, by omega⟩ (fun _ => by simp)
      (by simp) (by simp) (by simp) rfl⟩
  | ld_A_indC =>
    exact ExecEffect.read _ _ fun v b hb => 
      .pure b 8 rfl hb ⟨rfl, by omega, by omega⟩ (fun _ => rfl)
        (fun _ _ => rfl) (fun _ _ _ => rfl) (fun _ _ => rfl) rfl
  | ld_SP_HL =>
    exact ⟨_, rfl, .pure s.bootActive 8 rfl id ⟨rfl, by omega, by omega⟩ (fun _ => rfl)
      (fun _ _ => rfl) (fun _ _ _ => rfl) (fun _ _ => rfl) rfl⟩
  | daa =>
    exact ⟨_, rfl, .pure s.bootActive 4 rfl id ⟨rfl, by omega, by omega⟩ (fun h => absurd h (by decide))
      (fun _ _ => rfl) (fun _ _ _ => rfl) (fun _ _ => rfl) rfl⟩
  | cpl =>
    exact ⟨_, rfl, .pure s.bootActive 4 rfl id ⟨rfl, by omega, by omega⟩ (fun h => absurd h (by decide))
      (fun _ _ => rfl) (fun _ _ _ => rfl) (fun _ _ => rfl) rfl⟩
  | inc_indHL =>
    exact ExecEffect.read _ _ fun v b hb =>
      .stored (x := (inc8 v s.flags).1) b 12 rfl hb ⟨by simp, by omega, by omega⟩ (fun h => absurd h (by decide)) (by simp)
        (by simp) (by simp) rfl
  | dec_indHL =>
    exact ExecEffect.read _ _ fun v b hb =>
      .stored (x := (dec8 v s.flags).1) b 12 rfl hb ⟨by simp, by omega, by omega⟩ (fun h => absurd h (by decide)) (by simp)
        (by simp) (by simp) rfl
  | scf =>
    exact ⟨_, rfl, .pure s.bootActive 4 rfl id ⟨rfl, by omega, by omega⟩ (fun h => absurd h (by decide))
      (fun _ _ => rfl) (fun _ _ _ => rfl) (fun _ _ => rfl) rfl⟩
  | ccf =>
    exact ⟨_, rfl, .pure s.bootActive 4 rfl id ⟨rfl, by omega, by omega⟩ (fun h => absurd h (by decide))
      (fun _ _ => rfl) (fun _ _ _ => rfl) (fun _ _ => rfl) rfl⟩
  | rlca =>
    exact ⟨_, rfl, .pure s.bootActive 4 rfl id ⟨rfl, by omega, by omega⟩ (fun h => absurd h (by decide))
      (fun _ _ => rfl) (fun _ _ _ => rfl) (fun _ _ => rfl) rfl⟩
  | rrca =>
    exact ⟨_, rfl, .pure s.bootActive 4 rfl id ⟨rfl, by omega, by omega⟩ (fun h => absurd h (by decide))
      (fun _ _ => rfl) (fun _ _ _ => rfl) (fun _ _ => rfl) rfl⟩
  | rla =>
    exact ⟨_, rfl, .pure s.bootActive 4 rfl id ⟨rfl, by omega, by omega⟩ (fun h => absurd h (by decide))
      (fun _ _ => rfl) (fun _ _ _ => rfl) (fun _ _ => rfl) rfl⟩
  | rra =>
    exact ⟨_, rfl, .pure s.bootActive 4 rfl id ⟨rfl, by omega, by omega⟩ (fun h => absurd h (by decide))
      (fun _ _ => rfl) (fun _ _ _ => rfl) (fun _ _ => rfl) rfl⟩
  | ret => exact returnNow_effect 16 rfl (by omega)
  | reti =>
    show ∃ t, (s.returnFrom 16).finish _ = .next t ∧ _
    unfold State.returnFrom
    obtain ⟨b, hb, ⟨v, hr⟩ | ⟨f, hr⟩⟩ := s.pop16_cases <;> rw [hr]
    · exact ⟨_, rfl, .pure b 16 rfl hb ⟨rfl, by omega, by omega⟩ (fun _ => rfl) (fun _ h => absurd rfl h)
        (fun _ h _ => absurd rfl h) (fun _ _ => rfl) rfl⟩
    · exact ⟨_, rfl, .raised f b hb⟩
  | jp_HL =>
    exact ⟨_, rfl, .pure s.bootActive 4 rfl id ⟨rfl, by omega, by omega⟩ (fun _ => rfl)
      (fun _ _ => rfl) (fun _ _ _ => rfl) (fun _ _ => rfl) rfl⟩
  | nop =>
    exact ⟨_, rfl, .pure s.bootActive 4 rfl id ⟨rfl, by omega, by omega⟩ (fun _ => rfl)
      (fun _ _ => rfl) (fun _ _ _ => rfl) (fun _ _ => rfl) rfl⟩
  | halt =>
    exact ⟨_, rfl, .pure s.bootActive 4 rfl id ⟨rfl, by omega, by omega⟩ (fun _ => rfl)
      (fun _ _ => rfl) (fun _ _ _ => rfl) (fun h _ => absurd rfl h) rfl⟩
  | di =>
    exact ⟨_, rfl, .pure s.bootActive 4 rfl id ⟨rfl, by omega, by omega⟩ (fun _ => rfl)
      (fun h _ => absurd rfl h) (fun h _ _ => absurd rfl h) (fun _ _ => rfl) rfl⟩
  | ei =>
    exact ⟨_, rfl, .pure s.bootActive 4 rfl id ⟨rfl, by omega, by omega⟩ (fun _ => rfl)
      (fun _ _ => rfl) (fun _ _ h => absurd rfl h) (fun _ _ => rfl) rfl⟩

/-- What a list of bus writes leaves alone. -/
theorem State.writes_frame (ws : List (Word × Byte)) : ∀ s : State,
    (s.writes ws).regs = s.regs ∧ (s.writes ws).fault = s.fault ∧ (s.writes ws).cart = s.cart ∧
    (s.writes ws).boot = s.boot ∧ (s.writes ws).cfg = s.cfg ∧ (s.writes ws).clkMode = s.clkMode ∧
    (s.writes ws).ppuMode = s.ppuMode ∧ (s.writes ws).mem.fb = s.mem.fb ∧
    ((s.writes ws).bootActive = true → s.bootActive = true) := by
  induction ws with
  | nil => intro s; exact ⟨rfl, rfl, rfl, rfl, rfl, rfl, rfl, rfl, id⟩
  | cons w ws ih =>
    intro s
    obtain ⟨h1, h2, h3, h4, h5, h6, h7, h8, h9⟩ := ih (s.busWrite w.1 w.2)
    have hfb : (s.busWrite w.1 w.2).mem.fb = s.mem.fb := by
      rw [s.busWrite_mem]
      cases ht : s.target w.1 with
      | none => rfl
      | some p =>
        obtain ⟨n, k⟩ := p
        have := (s.target_lt ht).2
        show Arrays.get _ .fb = Arrays.get _ .fb
        simp only
        exact Arrays.get_set_ne _ _ (Ne.symm this)
    refine ⟨h1.trans (by simp), h2.trans (by simp), h3.trans (by simp), h4.trans (by simp), h5.trans (by simp),
      h6.trans (by simp), h7.trans (by simp), h8.trans hfb, fun h => ?_⟩
    have := h9 h
    rw [s.busWrite_bootActive] at this
    exact (Bool.and_eq_true_iff.1 this).1

/-- Bus writes keep the arrays good. -/
theorem State.writes_good (ws : List (Word × Byte)) : ∀ s : State, s.mem.Good s.cart.ramBanks →
    (s.writes ws).mem.Good s.cart.ramBanks := by
  induction ws with
  | nil => exact fun _ h => h
  | cons w ws ih =>
    intro s h
    have := ih (s.busWrite w.1 w.2)
    rw [State.busWrite_cart] at this
    exact this (s.busWrite_good h)

theorem BankRegs.setRomBankNonzero_toNat (b : BankRegs) {n : Nat} (h : n < 0x200) :
    (b.setRomBankNonzero n).romBank.toNat = if n = 0 then 1 else n := by
  unfold BankRegs.setRomBankNonzero
  simp only [BitVec.toNat_ofNat]
  split <;> omega

/-- A bank-controller register write keeps the registers legal (20_memory.md R108-R114). -/
theorem State.bankWrite_legal (s : State) (a : Word) (v : Byte) (h : s.bank.legal s.cart.mbc = true) :
    (s.bankWrite a v).bank.legal s.cart.mbc = true := by
  have hv := v.isLt
  unfold State.bankWrite
  cases hm : s.cart.mbc <;> rw [hm] at h <;> simp only
  · exact h
  all_goals
    simp only [BankRegs.legal, decide_eq_true_eq] at h ⊢
    first
      | unfold BankRegs.writeMbc1
      | unfold BankRegs.writeMbc3
      | unfold BankRegs.writeMbc5
      | unfold BankRegs.writeMbc30
    repeat' split
  all_goals
    first
      | exact h
      | (rw [BankRegs.setRomBankNonzero_toNat _ (by omega)]
         exact ⟨by split <;> omega, by split <;> omega, h.2.2⟩)
      | (simp only [BitVec.toNat_ofNat]; omega)

/-- A bus write keeps the bank-controller registers legal. -/
theorem State.busWrite_legal (s : State) (a : Word) (v : Byte) (h : s.bank.legal s.cart.mbc = true) :
    (s.busWrite a v).bank.legal s.cart.mbc = true := by
  by_cases ha : 0x8000 ≤ a.toNat
  · rw [s.busWrite_bank v ha]; exact h
  · have hb : s.busWrite a v = s.bankWrite a v := by
      unfold State.busWrite
      by_cases h3 : a.toNat ≤ 0x3FFF
      · rw [regionOf_rom00 h3]
      · rw [regionOf_romNN (by omega) (by omega)]
    rw [hb]; exact s.bankWrite_legal a v h

/-- Bus writes keep the bank-controller registers legal. -/
theorem State.writes_legal (ws : List (Word × Byte)) : ∀ s : State, s.bank.legal s.cart.mbc = true →
    (s.writes ws).bank.legal s.cart.mbc = true := by
  induction ws with
  | nil => exact fun _ h => h
  | cons w ws ih =>
    intro s h
    have := ih (s.busWrite w.1 w.2)
    rw [State.busWrite_cart] at this
    exact this (s.busWrite_legal _ _ h)

/-- A bus write moves no cell behind a neighbouring address. -/
theorem State.target_busWrite_next (s : State) (a : Word) (v : Byte) (b : Word)
    (hb : b.toNat = a.toNat + 1 ∨ a.toNat = b.toNat + 1) : (s.busWrite a v).target b = s.target b := by
  by_cases hp : s.storesPlainly a = true
  · obtain ⟨n, k, ht, hs, -⟩ := s.storesPlainly_cases hp
    rw [s.busWrite_plain v hp ht, State.target_store v hs]
  · have hc : (s.busWrite a v).colorMode = s.colorMode := by unfold State.colorMode; rw [s.busWrite_boot, s.busWrite_cfg]
    have hr' := regionOf_holds b
    have hio (k : Nat) (hk : a.toNat ≠ 0xFF00 + k) : (s.busWrite a v).io k = s.io k := by
      rw [State.io_eq_cell, State.io_eq_cell]
      exact s.cell_busWrite_ne fun h => hk (State.target_addr h)
    unfold State.target
    cases hreg : regionOf b with
    | vram off =>
      rw [hreg] at hr'
      simp only [Region.Holds] at hr'
      simp only [State.vbank, hc, hio 0x4F (by omega)]
    | wramN off =>
      rw [hreg] at hr'
      simp only [Region.Holds] at hr'
      simp only [State.wbank, hc, hio 0x70 (by omega)]
    | xram off =>
      rw [hreg] at hr'
      simp only [Region.Holds] at hr'
      simp only [State.xramCell, State.ramSel, s.busWrite_bank v (a := a) (by omega), State.busWrite_cart]
    | io off => simp only [hc]
    | _ => rfl

/-- A bus write keeps the joypad nibble of `P1` (20_memory.md R90). -/
theorem State.busWrite_joypad (s : State) (a : Word) (v : Byte) (h : s.mem.Good s.cart.ramBanks) :
    (s.busWrite a v).io 0x00 &&& 0x0F#8 = s.io 0x00 &&& 0x0F#8 := by
  by_cases ht : s.target a = some (.io, 0x00)
  · have hm := s.busWrite_mem a v
    rw [ht] at hm
    have hr : (s.busWrite a v).io 0x00 = (v &&& 0xF0#8) ||| (s.io 0x00 &&& 0x0F#8) := by
      unfold State.io
      rw [hm]
      exact Memory.read_write_self (Memory.good_iff.1 (Arrays.good_iff.1 h .io)).1 0x00 _
    have hb (x y : Byte) : ((x &&& 0xF0#8) ||| (y &&& 0x0F#8)) &&& 0x0F#8 = y &&& 0x0F#8 := by
      ext i hi
      simp only [BitVec.getElem_and, BitVec.getElem_or]
      interval_cases i <;> simp
    rw [hr, hb]
  · rw [State.io_eq_cell, State.io_eq_cell, s.cell_busWrite_ne ht]

/-- Bus writes keep the joypad nibble of `P1`. -/
theorem State.writes_joypad (ws : List (Word × Byte)) : ∀ s : State, s.mem.Good s.cart.ramBanks →
    (s.writes ws).io 0x00 &&& 0x0F#8 = s.io 0x00 &&& 0x0F#8 := by
  induction ws with
  | nil => exact fun _ _ => rfl
  | cons w ws ih =>
    intro s h
    have hg := s.busWrite_good (a := w.1) (v := w.2) h
    have := ih (s.busWrite w.1 w.2) (by rw [State.busWrite_cart]; exact hg)
    exact this.trans (s.busWrite_joypad _ _ h)

/-- A `CB` instruction's bytes are the prefix and the byte that selects it. -/
theorem encode_decodeCB (op2 : Byte) :
    encode (decodeCB op2) = [0xCB#8, op2] ∧ (decodeCB op2).isPrefixCB = false := by
  revert op2
  decide +kernel

/-- A `CB` instruction stores at `x[HL]` or nowhere. -/
theorem storeAddrs_decodeCB (op2 : Byte) (s : State) :
    (decodeCB op2).storeAddrs s = (Instr.prefix_CB op2).storeAddrs s := by
  show _ = if fieldZ op2 = 6 ∧ fieldX op2 ≠ 1 then [s.hl] else []
  have hx : fieldX op2 < 4 := by unfold fieldX; have := op2.isLt; omega
  have hz : fieldZ op2 < 8 := by unfold fieldZ; omega
  unfold decodeCB
  generalize ShiftOp.ofCode (fieldY op2) = op
  generalize Fin.ofNat 8 (fieldY op2) = b
  generalize fieldX op2 = x at hx
  generalize fieldZ op2 = z at hz
  obtain rfl | rfl | rfl | rfl : x = 0 ∨ x = 1 ∨ x = 2 ∨ x = 3 := by omega
  all_goals
    obtain rfl | rfl | rfl | rfl | rfl | rfl | rfl | rfl :
      z = 0 ∨ z = 1 ∨ z = 2 ∨ z = 3 ∨ z = 4 ∨ z = 5 ∨ z = 6 ∨ z = 7 := by omega
  all_goals first
    | (cases op <;> rfl)
    | (fin_cases b <;> rfl)

/-- What every instruction can do. -/
theorem exec_effect (i : Instr) (s : State) : ∃ t, exec i s = .next t ∧ ExecEffect i s t := by
  by_cases hp : ∃ op2, i = .prefix_CB op2
  · obtain ⟨op2, rfl⟩ := hp
    obtain ⟨hc, hn⟩ := encode_decodeCB op2
    have hne {j : Instr} (h : encode j ≠ [0xCB#8, op2]) : decodeCB op2 ≠ j := fun e => h (e ▸ hc)
    have hf : (decodeCB op2).writesFlags = (Instr.prefix_CB op2).writesFlags := by
      unfold Instr.writesFlags
      rw [hc]
      rfl
    obtain ⟨t, ht, he⟩ := exec_effect_of_shape s (decodeCB op2).shape fun x h => by rw [h] at hn; cases hn
    have h1 := hne (j := .di) nofun
    have h2 := hne (j := .reti) nofun
    have h3 := hne (j := .ei) nofun
    have h4 := hne (j := .halt) nofun
    have h5 := fun x => hne (j := .stop x) (by show [0x10#8, x] ≠ _; simp)
    refine ⟨t, by rw [exec_prefix_eq]; exact ht, ?_⟩
    cases he with
    | raised f b hb => exact .raised f b hb
    | done ws b n t hws hseq hb hn hflags hime hei hrun ht =>
      exact .done ws b n t (hws.trans (storeAddrs_decodeCB op2 s)) hseq hb hn (fun h => hflags (hf.trans h)) (fun _ _ => hime h1 h2)
        (fun _ _ _ => hei h1 h2 h3) (fun _ _ => hrun h4 h5) ht
  · exact exec_effect_of_shape s i.shape fun op2 h => hp ⟨op2, h⟩

end Sys2Proof.Machine
end

