-- ==== Sys2Proof/Laws/Decode.lean ====
section
/-! SUPPORT. The decoder against the encoder: an instruction read from an opcode byte and its operand bytes has those bytes
as its encoding. -/
namespace Sys2Proof

/-- What the decoder gives is well formed, and the bytes that its format takes are its encoding. -/
theorem encode_decodeOp (op b1 b2 : Byte) :
    (decodeOp op b1 b2).wellFormed = true ∧ encode (decodeOp op b1 b2) = [op, b1, b2].take (formatOf op).length := by
  by_cases hcb : op = 0xCB#8
  · subst hcb
    obtain ⟨h1, h2⟩ := Machine.encode_decodeCB b1
    exact ⟨by show (!(decodeCB b1).isPrefixCB) = true; rw [h2]; rfl, h1⟩
  · have h1 : hiByte (wordOf b2 b1) = b2 := hiByte_wordOf _ _
    have h2 : loByte (wordOf b2 b1) = b1 := loByte_wordOf _ _
    obtain ⟨n, hn, rfl⟩ : ∃ n, n < 256 ∧ op = BitVec.ofNat 8 n := ⟨op.toNat, op.isLt, by simp⟩
    interval_cases n <;> first
      | exact ⟨rfl, rfl⟩
      | exact absurd rfl hcb
      | (refine ⟨rfl, ?_⟩
         show [_, loByte (wordOf b2 b1), hiByte (wordOf b2 b1)] = _
         rw [h1, h2]; rfl)

end Sys2Proof
end

