-- ==== Sys2Proof/Laws/HostOps.lean ====
section
/-! SUPPORT. What the host's read-out copies (spec 70_reset_and_hazards.md R609, R610), and what an image holds. -/
namespace Sys2Proof.Machine

variable (s : State)

@[simp] theorem State.sample_length (r : SampleRange) :
    (s.sample r).length = min r.count (s.sourceSize r.source - r.first) := by simp [State.sample]

/-- A sample, whole: byte `i` is the stored byte `i` cells past the range's first, as long as the range and its source last. -/
theorem State.sample_getElem? (r : SampleRange) (i : Nat) :
    (s.sample r)[i]? =
      if i < r.count ∧ r.first + i < s.sourceSize r.source then some (s.sourceCell (r.first + i) r.source) else none := by
  have hb : i < min r.count (s.sourceSize r.source - r.first) ↔ i < r.count ∧ r.first + i < s.sourceSize r.source := by omega
  by_cases h : i < r.count ∧ r.first + i < s.sourceSize r.source
  · rw [if_pos h]
    simp [State.sample, hb.2 h]
  · rw [if_neg h, List.getElem?_eq_none]
    rw [State.sample_length]
    exact Nat.not_lt.1 (mt hb.1 h)

/-- The frame buffer's copy is the sample of all of `FB`. -/
theorem State.getFrameBuffer_eq_sample :
    s.getFrameBuffer = s.sample { source := .array .fb, first := 0, count := frameBufferSize } := by
  simp [State.getFrameBuffer, State.sample, State.sourceCell, State.sourceSize, ArrayName.size]

/-- Cell `k` of an image is byte `k` of the list it was made from (R602, R603). -/
theorem Image.read_ofBytes (bytes : List Byte) (k : Nat) (h : k < bytes.length) :
    (Image.ofBytes bytes).cells.read k = bytes[k] := by
  show Memory.read (Memory.ofBytes 0 bytes) k = _
  rw [Memory.read_ofBytes]
  simp [h]

end Sys2Proof.Machine
end

