-- ==== Sys2Proof/Laws/Stack.lean ====
section
/-! SUPPORT. The laws of the stack primitives (spec 20_memory.md R130, R131): when they complete and what they leave. -/
namespace Sys2Proof.Machine

variable {s : State}

theorem Word.lt_two_iff (w : Word) : w < 0x0002#16 ↔ w.toNat < 0x0002 := by rw [BitVec.lt_def]; rfl

theorem Word.high_lt_iff (w : Word) : 0xFFFD#16 < w ↔ 0xFFFD < w.toNat := by rw [BitVec.lt_def]; rfl

theorem Word.toNat_sub_one {w : Word} (h : 1 ≤ w.toNat) : (w - 1).toNat = w.toNat - 1 := by
  rw [BitVec.toNat_sub]; simp; omega

theorem Word.toNat_sub_two {w : Word} (h : 2 ≤ w.toNat) : (w - 2).toNat = w.toNat - 2 := by
  rw [BitVec.toNat_sub]; simp; omega

theorem Word.sub_two_add_one (w : Word) : w - 2 + 1 = w - 1 := by
  apply BitVec.eq_of_toNat_eq
  simp [BitVec.toNat_add, BitVec.toNat_sub]; omega

/-- A push with room on the stack (R130). -/
theorem State.push16_ok (v : Word) (h : 0x0002 ≤ s.sp.toNat) :
    s.push16 v =
      .ok () (((s.busWrite (s.sp - 1) (hiByte v)).busWrite (s.sp - 2) (loByte v)).setSp (s.sp - 2)) := by
  unfold State.push16
  rw [if_neg (by rw [Word.lt_two_iff]; omega)]

/-- A push with no room (R130). -/
theorem State.push16_raised (v : Word) (h : s.sp.toNat < 0x0002) :
    s.push16 v = .raised (s.raise (.stackError s.sp)) := by
  unfold State.push16
  rw [if_pos (by rw [Word.lt_two_iff]; exact h)]

/-- A pop of two readable bytes (R131). -/
theorem State.pop16_ok {lo hi : Byte} (h : s.sp.toNat ≤ 0xFFFD) (hlo : s.peek s.sp = some lo)
    (hhi : s.peek (s.sp + 1) = some hi) :
    s.pop16 = .ok (wordOf hi lo) (((s.afterRead s.sp).afterRead (s.sp + 1)).setSp (s.sp + 2)) := by
  unfold State.pop16
  rw [if_neg (by rw [Word.high_lt_iff]; omega), s.busRead_of_peek hlo]
  simp only [Access.andThen]
  rw [State.busRead_of_peek _ (by rw [State.peek_afterRead_succ]; exact hhi)]

/-- A pop beyond the top (R131). -/
theorem State.pop16_raised (h : 0xFFFD < s.sp.toNat) : s.pop16 = .raised (s.raise (.stackError s.sp)) := by
  unfold State.pop16
  rw [if_pos (by rw [Word.high_lt_iff]; exact h)]

/-- Two bytes stored on plain stack bytes change memory alone, and both are read back. -/
theorem State.stack_stores (hi lo : Byte) (hg : s.mem.Good s.cart.ramBanks) (h : 0x0002 ≤ s.sp.toNat)
    (h1 : s.storesPlainly (s.sp - 1) = true) (h2 : s.storesPlainly (s.sp - 2) = true) :
    ∃ m : Arrays, (s.busWrite (s.sp - 1) hi).busWrite (s.sp - 2) lo = { s with mem := m } ∧
      State.peek { s with mem := m } (s.sp - 2) = some lo ∧ State.peek { s with mem := m } (s.sp - 1) = some hi := by
  obtain ⟨n1, k1, ht1, hs1, -⟩ := s.storesPlainly_cases h1
  obtain ⟨n2, k2, ht2, hs2, -⟩ := s.storesPlainly_cases h2
  have hne : s.target (s.sp - 1) ≠ some (n2, k2) := by
    have := State.target_succ_ne ht2 (by rw [Word.toNat_sub_two h]; have := s.sp.isLt; omega)
    rwa [Word.sub_two_add_one] at this
  have h2' : (s.store n1 k1 hi).storesPlainly (s.sp - 2) = true := by
    unfold State.storesPlainly; rw [State.target_store hi hs1]; exact h2
  have ht2' : (s.store n1 k1 hi).target (s.sp - 2) = some (n2, k2) := by rw [State.target_store hi hs1]; exact ht2
  have hg' : (s.store n1 k1 hi).mem.Good s.cart.ramBanks := hg.set (s.target_lt ht1).1 hi
  refine ⟨((s.store n1 k1 hi).store n2 k2 lo).mem, ?_, ?_, ?_⟩
  · rw [s.busWrite_plain hi h1 ht1, State.busWrite_plain lo h2' ht2']; rfl
  · exact State.peek_store_self hg' lo hs2 ht2'
  · refine (State.peek_store_ne lo hs2 (s := s.store n1 k1 hi) ?_).trans (State.peek_store_self hg hi hs1 ht1)
    rw [State.target_store hi hs1]; exact hne

/-- A pop after `sp` came down by two over two readable plain bytes: `sp` comes back, nothing else changes. -/
theorem State.pop16_after {sp : Word} {v : Word} (hsp : s.sp = sp - 2) (h : 0x0002 ≤ sp.toNat)
    (hlo : s.peek (sp - 2) = some (loByte v)) (hhi : s.peek (sp - 1) = some (hiByte v))
    (h1 : sp - 1 ≠ 0x0100#16) (h2 : sp - 2 ≠ 0x0100#16) : s.pop16 = .ok v { s with sp := sp } := by
  have e : s.sp + 1 = sp - 1 := by rw [hsp, Word.sub_two_add_one]
  rw [State.pop16_ok (lo := loByte v) (hi := hiByte v)]
  · rw [hsp, Word.sub_two_add_one, s.afterRead_of_ne h2, s.afterRead_of_ne h1, wordOf_hi_lo]
    simp [State.setSp]
  · rw [hsp, Word.toNat_sub_two h]; have := sp.isLt; omega
  · rw [hsp]; exact hlo
  · rw [e]; exact hhi

/-- `POP` where the pop completes. -/
theorem exec_pop_ok {qq : StackPair} {v : Word} {u : State} (h : s.pop16 = .ok v u) :
    exec (Instr.pop qq) s = .next ((u.setStackPair qq v).finish 1 12) := by
  rw [exec_pop]; unfold popPair; rw [h]; rfl

/-- `RET` where the pop completes. -/
theorem exec_ret_ok {v : Word} {u : State} (h : s.pop16 = .ok v u) : exec .ret s = .next (u.jump v 16) := by
  show returnNow 16 s = _; unfold returnNow State.returnFrom; rw [h]; rfl

/-- `RET cc` where it is taken and the pop completes. -/
theorem exec_retCond_ok {cc : Cond} {v : Word} {u : State} (hc : s.flags.holds cc = true) (h : s.pop16 = .ok v u) :
    exec (Instr.retCond cc) s = .next (u.jump v 20) := by
  rw [exec_retCond, returnCond, if_pos hc]; unfold returnNow State.returnFrom; rw [h]; rfl

/-- `RETI` where the pop completes. -/
theorem exec_reti_ok {v : Word} {u : State} (h : s.pop16 = .ok v u) :
    exec .reti s = .next { u.jump v 16 with ime := true, eiPending := false } := by
  show (State.returnFrom _ 16).finish _ = _; unfold State.returnFrom; rw [h]; rfl

theorem State.storesPlainly_ne {a : Word} (h : s.storesPlainly a = true) : a ≠ 0x0100#16 := by
  obtain ⟨_, _, _, _, h8, -⟩ := s.storesPlainly_cases h
  rintro rfl
  simp at h8

end Sys2Proof.Machine
end

