-- ==== Sys2Proof/Laws/Step.lean ====
section
/-! SUPPORT. The laws of a step: what the interrupt check, a fetch, a CPU tick, a PPU tick and a step can do, each said
once. -/
namespace Sys2Proof.Machine

variable {s : State}

/-! ## The interrupt check (60_exceptions.md R510, R512) -/

theorem State.interruptCheck_none (h : s.pending = 0#5) : s.interruptCheck = s := by
  unfold State.interruptCheck; rw [if_pos h]

theorem State.interruptCheck_masked (h : s.pending ≠ 0#5) (hi : s.ime = false) : s.interruptCheck = s.exitHalt := by
  unfold State.interruptCheck
  rw [if_neg h, if_neg (by simp [hi]), if_pos hi]

theorem State.interruptCheck_raised (h : s.pending ≠ 0#5) (hi : s.ime = true) (hsp : s.sp.toNat < 0x0002) :
    s.interruptCheck = s.raise (.stackError s.sp) := by
  unfold State.interruptCheck
  rw [if_neg h, if_pos ⟨hi, (Word.lt_two_iff _).2 hsp⟩]

/-- The interrupt check of a state about to fetch does nothing. -/
theorem State.AboutToFetch.interruptCheck_eq (h : s.AboutToFetch) : s.interruptCheck = s := by
  by_cases hp : s.pending = 0#5
  · exact State.interruptCheck_none hp
  · rw [State.interruptCheck_masked hp (h.noDispatch.resolve_left hp)]
    unfold State.exitHalt
    rw [if_neg (by rw [h.running]; nofun)]

/-- The state that taking interrupt `n` leaves (R512). -/
theorem State.interruptCheck_taken (h : s.pending ≠ 0#5) (hi : s.ime = true) (hsp : 0x0002 ≤ s.sp.toNat) :
    s.interruptCheck =
      { (State.store ((s.exitHalt.busWrite (s.sp - 1) (hiByte s.pc)).busWrite (s.sp - 2) (loByte s.pc)) .io 0x0F
          (((s.exitHalt.busWrite (s.sp - 1) (hiByte s.pc)).busWrite (s.sp - 2) (loByte s.pc)).io 0x0F &&&
            (0xFF#8 ^^^ (1#8 <<< lowestSource s.pending)))) with
        ime := false
        eiPending := false
        sp := s.sp - 2
        clkTotal := s.exitHalt.clkTotal + 20
        pc := BitVec.ofNat 16 (0x0040 + 8 * lowestSource s.pending) } := by
  unfold State.interruptCheck
  rw [if_neg h, if_neg (by rw [Word.lt_two_iff]; omega), if_neg (by simp [hi])]
  unfold State.dispatch
  rw [State.push16_ok _ (by simpa using hsp)]
  simp [Access.andThen, State.setSp, State.store, State.io]

/-- Everything the interrupt check can do: nothing but leaving a halt, raise, or take an interrupt. -/
theorem State.interruptCheck_cases (s : State) :
    (s.interruptCheck = s) ∨ (s.interruptCheck = s.exitHalt) ∨
    (s.interruptCheck = { s with fault := some (.stackError s.sp) }) ∨
    ∃ (ws : List (Word × Byte)) (v : Byte) (pc sp : Word), s.interruptCheck =
      { State.store (s.exitHalt.writes ws) .io 0x0F v with
        ime := false, eiPending := false, sp := sp, clkTotal := s.exitHalt.clkTotal + 20, pc := pc } := by
  by_cases h : s.pending = 0#5
  · exact .inl (s.interruptCheck_none h)
  · by_cases hi : s.ime = true
    · by_cases hsp : s.sp.toNat < 0x0002
      · exact .inr (.inr (.inl (State.interruptCheck_raised h hi hsp)))
      · exact .inr (.inr (.inr ⟨[(s.sp - 1, hiByte s.pc), (s.sp - 2, loByte s.pc)], _, _, _,
          State.interruptCheck_taken h hi (by omega)⟩))
    · exact .inr (.inl (State.interruptCheck_masked h (by simpa using hi)))

/-! ## Fetching (30_encoding.md R150, R151) -/

/-- A fetch gives an instruction and may switch the overlay off, or raises. -/
theorem State.fetch_cases (s : State) : ∃ b, (b = true → s.bootActive = true) ∧
    ((∃ i, s.fetch = .ok i { s with bootActive := b }) ∨
      ∃ f, s.fetch = .raised { s with fault := some f, bootActive := b }) := by
  unfold State.fetch
  obtain ⟨b, hb, ⟨op, h⟩ | ⟨f, h⟩⟩ := s.busRead_cases s.pc
  · rw [h]
    simp only [Access.andThen]
    obtain ⟨b1, hb1, h1⟩ := State.busRead_cases { s with bootActive := b } (s.pc + 1)
    cases formatOf op with
    | op => exact ⟨b, hb, .inl ⟨_, rfl⟩⟩
    | op8 =>
      refine ⟨b1, fun x => hb (hb1 x), ?_⟩
      obtain ⟨v, h1⟩ | ⟨f, h1⟩ := h1 <;> simp only [h1]
      · exact .inl ⟨_, rfl⟩
      · exact .inr ⟨_, rfl⟩
    | cb =>
      refine ⟨b1, fun x => hb (hb1 x), ?_⟩
      obtain ⟨v, h1⟩ | ⟨f, h1⟩ := h1 <;> simp only [h1]
      · exact .inl ⟨_, rfl⟩
      · exact .inr ⟨_, rfl⟩
    | op16 =>
      obtain ⟨v, h1⟩ | ⟨f, h1⟩ := h1 <;> simp only [h1]
      · obtain ⟨b2, hb2, h2⟩ := State.busRead_cases { s with bootActive := b1 } (s.pc + 2)
        refine ⟨b2, fun x => hb (hb1 (hb2 x)), ?_⟩
        obtain ⟨v2, h2⟩ | ⟨f, h2⟩ := h2 <;> simp only [h2]
        · exact .inl ⟨_, rfl⟩
        · exact .inr ⟨_, rfl⟩
      · exact ⟨b1, fun x => hb (hb1 x), .inr ⟨_, rfl⟩⟩
  · rw [h]; exact ⟨b, hb, .inr ⟨_, rfl⟩⟩

/-- A fetch over readable bytes gives the instruction they decode to. -/
theorem State.fetch_of_decode {bytes : List Byte} {i : Instr} (hd : decode bytes = .ok (i, []))
    (hp : ∀ k (h : k < bytes.length), s.peek (s.pc + BitVec.ofNat 16 k) = some bytes[k]) :
    s.fetch = .ok i { s with
      bootActive := s.bootActive &&
        (List.range bytes.length).all (fun k => decide (s.pc + BitVec.ofNat 16 k ≠ 0x0100#16)) } := by
  have h0 (hl : 0 < bytes.length) : s.peek s.pc = some bytes[0] := by simpa using hp 0 hl
  cases bytes with
  | nil => cases hd
  | cons op rest =>
    have h0 : s.peek s.pc = some op := h0 (by simp)
    unfold State.fetch
    rw [s.busRead_of_peek h0]
    simp only [Access.andThen]
    cases hf : formatOf op with
    | op =>
      simp only [decode, hf, Except.ok.injEq, Prod.mk.injEq] at hd
      obtain ⟨rfl, rfl⟩ := hd
      rw [State.afterRead_eq]
      simp
    | op8 =>
      cases rest with
      | nil => simp [decode, hf] at hd
      | cons b1 rest =>
        simp only [decode, hf, Except.ok.injEq, Prod.mk.injEq] at hd
        obtain ⟨rfl, rfl⟩ := hd
        have h1 : s.peek (s.pc + 1) = some b1 := by simpa using hp 1 (by simp)
        rw [← s.peek_afterRead_succ] at h1
        simp only [State.busRead_of_peek _ h1]
        rw [State.afterRead_eq, State.afterRead_eq]
        simp [List.range_succ, Bool.and_assoc]
    | cb =>
      cases rest with
      | nil => simp [decode, hf] at hd
      | cons b1 rest =>
        simp only [decode, hf, Except.ok.injEq, Prod.mk.injEq] at hd
        obtain ⟨rfl, rfl⟩ := hd
        have h1 : s.peek (s.pc + 1) = some b1 := by simpa using hp 1 (by simp)
        rw [← s.peek_afterRead_succ] at h1
        simp only [State.busRead_of_peek _ h1]
        rw [State.afterRead_eq, State.afterRead_eq]
        simp [List.range_succ, Bool.and_assoc]
    | op16 =>
      cases rest with
      | nil => simp [decode, hf] at hd
      | cons b1 rest =>
        cases rest with
        | nil => simp [decode, hf] at hd
        | cons b2 rest =>
          simp only [decode, hf, Except.ok.injEq, Prod.mk.injEq] at hd
          obtain ⟨rfl, rfl⟩ := hd
          have h1 : s.peek (s.pc + 1) = some b1 := by simpa using hp 1 (by simp)
          have h2 : s.peek (s.pc + 2) = some b2 := by simpa using hp 2 (by simp)
          have e : s.pc + 2 = s.pc + 1 + 1 := by rw [BitVec.add_assoc]; rfl
          rw [← s.peek_afterRead_succ] at h1
          rw [← s.peek_afterRead_succ2, e, ← State.peek_afterRead_succ, ← e] at h2
          simp only [State.busRead_of_peek _ h1, State.busRead_of_peek _ h2]
          rw [State.afterRead_eq, State.afterRead_eq, State.afterRead_eq]
          simp [List.range_succ, Bool.and_assoc]

/-! ## The CPU tick and the step (30_encoding.md R150, 50_clock_scheduler.md R403) -/

/-- Everything a CPU tick of a machine that is not faulted or stopped can do, from the state `c` that its interrupt check
left: end there with a fault, idle in a halt, raise in the fetch, or run an instruction. -/
theorem State.cpuTick_cases (hf : s.fault = none) (hr : s.run ≠ .stopped) : ∃ u, s.cpuTick = .next u ∧
    ((u = s.interruptCheck ∧ s.interruptCheck.fault ≠ none) ∨
      (s.interruptCheck.fault = none ∧ s.interruptCheck.run = .halted ∧ u = s.interruptCheck.advance haltIdleCycles) ∨
      (s.interruptCheck.fault = none ∧ s.interruptCheck.run ≠ .halted ∧
        ∃ b f, (b = true → s.interruptCheck.bootActive = true) ∧
          u = { s.interruptCheck with fault := some f, bootActive := b }) ∨
      (s.interruptCheck.fault = none ∧ s.interruptCheck.run ≠ .halted ∧
        ∃ b i t, (b = true → s.interruptCheck.bootActive = true) ∧
          s.interruptCheck.fetch = .ok i { s.interruptCheck with bootActive := b } ∧
          exec i { s.interruptCheck with bootActive := b } = .next t ∧
          ExecEffect i { s.interruptCheck with bootActive := b } t ∧
          u = t.endEiDelay s.interruptCheck.eiPending)) := by
  unfold State.cpuTick
  rw [if_neg (by simp [hf]), if_neg hr]
  generalize s.interruptCheck = c
  by_cases hc : c.fault.isSome = true
  · rw [if_pos hc]
    exact ⟨_, rfl, .inl ⟨rfl, by intro h; simp [h] at hc⟩⟩
  · rw [if_neg hc]
    have hc' : c.fault = none := by simpa using hc
    by_cases hh : c.run = .halted
    · rw [if_pos hh]
      exact ⟨_, rfl, .inr (.inl ⟨hc', hh, rfl⟩)⟩
    · rw [if_neg hh]
      unfold State.runInstruction
      obtain ⟨b, hb, ⟨i, h⟩ | ⟨f, h⟩⟩ := c.fetch_cases
      · obtain ⟨t, ht, he⟩ := exec_effect i { c with bootActive := b }
        simp only [h, ht]
        exact ⟨_, rfl, .inr (.inr (.inr ⟨hc', hh, b, i, t, hb, rfl, ht, he, rfl⟩))⟩
      · rw [h]
        refine ⟨_, rfl, .inr (.inr (.inl ⟨hc', hh, b, f, hb, ?_⟩))⟩
        unfold State.endEiDelay
        rw [if_neg (by simp)]

/-- A step of a machine that is not faulted, not stopped and within the frame budget. -/
theorem step_ticks (h : s.fault = none) (hr : s.run ≠ .stopped) (hc : s.clkTotal ≤ frameCycles) :
    ∃ u, s.cpuTick = .next u ∧ step s = .next u.ppuTick := by
  obtain ⟨u, hu, -⟩ := State.cpuTick_cases h hr
  refine ⟨u, hu, ?_⟩
  unfold step
  rw [h]
  simp only
  rw [if_neg hr, if_neg (by omega)]
  unfold State.tickPair
  rw [hu]
  rfl

/-- A step that runs an instruction, from the state its interrupt check left (R150, R403). -/
theorem step_runs {i : Instr} {u : State} (h : s.fault = none) (hr : s.run ≠ .stopped) (hc : s.clkTotal ≤ frameCycles)
    (hf : s.interruptCheck.fault = none) (hrun : s.interruptCheck.run ≠ .halted)
    (hfetch : s.interruptCheck.fetch = .ok i u) :
    step s = onNext (exec i u) (fun t => .next ((t.endEiDelay s.interruptCheck.eiPending).ppuTick)) := by
  unfold step
  rw [h]
  simp only
  rw [if_neg hr, if_neg (by omega)]
  unfold State.tickPair State.cpuTick
  rw [if_neg (by simp [h]), if_neg hr, if_neg (by simp [hf]), if_neg hrun]
  unfold State.runInstruction
  rw [hfetch]
  obtain ⟨t, ht, -⟩ := exec_effect i u
  simp only [ht, onNext]

/-- A step whose fetch raises records that fault and does nothing else (R151, R507): neither the end of an `EI` delay nor the
PPU acts in a faulted state. -/
theorem step_of_fetch_raised {u : State} (h : s.AboutToFetch) (hf : s.fetch = .raised u) (hu : u.fault ≠ none) :
    step s = .next u := by
  unfold step
  rw [h.noFault]
  simp only
  rw [if_neg h.notStopped, if_neg (Nat.not_lt.2 h.inFrame)]
  unfold State.tickPair State.cpuTick
  rw [h.interruptCheck_eq, if_neg (by simp [h.noFault]), if_neg h.notStopped, if_neg (by simp [h.noFault]),
    if_neg (by rw [h.running]; nofun)]
  unfold State.runInstruction
  rw [hf]
  simp only [onNext]
  have e : State.endEiDelay s.eiPending u = u := by
    unfold State.endEiDelay
    rw [if_neg (by simp [hu])]
  rw [e]
  congr 1
  unfold State.ppuTick
  rw [if_pos (Option.isSome_iff_ne_none.2 hu)]

/-! ## The PPU tick (51_ppu.md R432-R438) -/

/-- A PPU tick touches memory, `clk.mode` and the mode, and nothing else. -/
theorem State.ppuTick_eq (s : State) :
    s.ppuTick = { s with mem := s.ppuTick.mem, clkMode := s.ppuTick.clkMode, ppuMode := s.ppuTick.ppuMode } := by
  unfold State.ppuTick
  split
  · rfl
  split
  · rfl
  split
  · rfl
  unfold State.ppuTransition
  split
  · rfl
  · dsimp only
    split
    · unfold State.renderScanline State.windowPass State.spritePass
      simp only [ite_self]
      rfl
    · rfl
  · dsimp only
    split <;> rfl
  · dsimp only
    split <;> rfl

theorem State.pixel_length (s : State) (ly x : Nat) : (s.pixel ly x).length = 4 := rfl

theorem State.scanline_length (s : State) (ly : Nat) : (s.scanline ly).length = 640 := by
  unfold State.scanline
  rw [List.length_flatMap]
  simp [State.pixel_length, screenW]

theorem State.renderScanline_eq (s : State) (ly : Nat) : s.renderScanline ly = s.renderBackground ly := by
  unfold State.renderScanline State.windowPass State.spritePass
  simp only [ite_self]

/-- The background pass keeps the arrays good. -/
theorem State.renderBackground_good {r : Nat} (h : s.mem.Good r) {ly : Nat} (hl : ly ≤ 143) :
    (s.renderBackground ly).mem.Good r := by
  have hs := s.scanline_length ly
  refine ⟨h.vram, h.wram, h.oam, h.io, h.wave, h.hram, h.xram, ?_⟩
  have hb : ly * screenW * 4 + (s.scanline ly).length ≤ frameBufferSize := by
    rw [hs, show screenW = 160 from rfl, show frameBufferSize = 92160 from rfl]
    omega
  exact Memory.good_writeBlock h.fb _ _ hb

/-- A PPU tick keeps the arrays good. -/
theorem State.ppuTick_good {r : Nat} (h : s.mem.Good r) : s.ppuTick.mem.Good r := by
  have hio {m : Arrays} (hm : m.Good r) (k : Nat) (hk : k < 0x80) (v : Byte) :
      (m.set .io ((m.get .io).write k v)).Good r := hm.set (n := .io) hk v
  unfold State.ppuTick
  split
  · exact h
  split
  · exact h
  split
  · exact h
  unfold State.ppuTransition
  split
  · exact h
  · dsimp only
    split
    · rw [State.renderScanline_eq]
      exact State.renderBackground_good h (by assumption)
    · exact h
  · dsimp only
    split
    · exact hio (hio h 0x44 (by omega) _) 0x0F (by omega) _
    · exact hio h 0x44 (by omega) _
  · dsimp only
    split
    · exact hio h 0x44 (by omega) _
    · exact hio h 0x44 (by omega) _

/-- `clk.mode` moves only up to `clk.total` (R433). -/
theorem State.ppuTick_clkMode (s : State) : s.ppuTick.clkMode ≤ max s.clkMode s.clkTotal := by
  unfold State.ppuTick
  split
  · omega
  split
  · omega
  split
  · omega
  next hf _ hg =>
    have hm : s.ppuTransition.clkMode = s.clkMode + thresh s.ppuMode := by
      unfold State.ppuTransition
      split
      · rfl
      · dsimp only
        split
        · rw [State.renderScanline_eq]; rfl
        · rfl
      · dsimp only
        split <;> rfl
      · dsimp only
        split <;> rfl
    omega

/-! ## What every part of a step keeps -/

/-- From `s` to `t`: the images, the variant and the parameters are the same, the overlay is not switched on, arrays stay
good, bank-controller registers stay legal, and the joypad nibble of `P1` is the same. -/
structure State.Keeps (s t : State) : Prop where
  cart : t.cart = s.cart
  boot : t.boot = s.boot
  cfg : t.cfg = s.cfg
  overlay : t.bootActive = true → s.bootActive = true
  good : s.mem.Good s.cart.ramBanks → t.mem.Good s.cart.ramBanks
  legal : s.bank.legal s.cart.mbc = true → t.bank.legal s.cart.mbc = true
  joypad : s.mem.Good s.cart.ramBanks → t.io 0x00 &&& 0x0F#8 = s.io 0x00 &&& 0x0F#8

theorem State.Keeps.trans {s t u : State} (h : s.Keeps t) (h' : t.Keeps u) : s.Keeps u where
  cart := h'.cart.trans h.cart
  boot := h'.boot.trans h.boot
  cfg := h'.cfg.trans h.cfg
  overlay := fun x => h.overlay (h'.overlay x)
  good := fun x => by have := h'.good (by rw [h.cart]; exact h.good x); rwa [h.cart] at this
  legal := fun x => by have := h'.legal (by rw [h.cart]; exact h.legal x); rwa [h.cart] at this
  joypad := fun x => (h'.joypad (by rw [h.cart]; exact h.good x)).trans (h.joypad x)

/-- A change of the CPU's own fields, the counters and the mode alone keeps everything, but a switched-on overlay. -/
theorem State.Keeps.of_eq {s t : State} (h1 : t.cart = s.cart) (h2 : t.boot = s.boot) (h3 : t.cfg = s.cfg)
    (h4 : t.bootActive = true → s.bootActive = true) (h5 : t.mem = s.mem) (h6 : t.bank = s.bank) : s.Keeps t where
  cart := h1
  boot := h2
  cfg := h3
  overlay := h4
  good := fun h => by rw [h5]; exact h
  legal := fun h => by rw [h6]; exact h
  joypad := fun _ => by unfold State.io; rw [h5]

theorem State.Keeps.writes (ws : List (Word × Byte)) : s.Keeps (s.writes ws) where
  cart := (State.writes_frame ws s).2.2.1
  boot := (State.writes_frame ws s).2.2.2.1
  cfg := (State.writes_frame ws s).2.2.2.2.1
  overlay := (State.writes_frame ws s).2.2.2.2.2.2.2.2
  good := State.writes_good ws s
  legal := State.writes_legal ws s
  joypad := State.writes_joypad ws s

/-- An instruction keeps everything. -/
theorem ExecEffect.keeps {i : Instr} {t : State} (h : ExecEffect i s t) : s.Keeps t := by
  cases h with
  | raised f b hb => exact .of_eq rfl rfl rfl hb rfl rfl
  | done ws b n _ hws hseq hb hn hflags hime hei hrun ht =>
    refine State.Keeps.trans (t := { s with bootActive := b }) (.of_eq rfl rfl rfl hb rfl rfl) ?_
    refine State.Keeps.trans (.writes ws) ?_
    rw [ht]
    exact .of_eq rfl rfl rfl id rfl rfl

/-- An instruction moves `clk.total` by at most its longest cost, and no other counter (R406). -/
theorem ExecEffect.clocks {i : Instr} {t : State} (h : ExecEffect i s t) :
    t.clkMode = s.clkMode ∧ s.clkTotal ≤ t.clkTotal ∧ t.clkTotal ≤ s.clkTotal + 24 ∧
      (t.fault = none → s.clkTotal + 4 ≤ t.clkTotal) := by
  cases h with
  | raised f b hb => exact ⟨rfl, Nat.le_refl _, Nat.le_add_right _ _, nofun⟩
  | done ws b n _ hws hseq hb hn hflags hime hei hrun ht =>
    refine ⟨?_, by omega, by omega, fun _ => by omega⟩
    rw [ht]
    exact (State.writes_frame ws _).2.2.2.2.2.1

theorem State.Keeps.exitHalt (s : State) : s.Keeps s.exitHalt :=
  .of_eq (by simp) (by simp) (by simp) (by simp) (by simp) (by simp)

theorem State.exitHalt_clocks (s : State) :
    s.exitHalt.clkMode = s.clkMode ∧ s.clkTotal ≤ s.exitHalt.clkTotal ∧ s.exitHalt.clkTotal ≤ s.clkTotal + 4 := by
  unfold State.exitHalt
  split
  · exact ⟨rfl, Nat.le_add_right _ _, Nat.le_refl _⟩
  · exact ⟨rfl, Nat.le_refl _, Nat.le_add_right _ _⟩

/-- A store to `IF` keeps everything. -/
theorem State.Keeps.storeIf (v : Byte) : s.Keeps (s.store .io 0x0F v) where
  cart := rfl
  boot := rfl
  cfg := rfl
  overlay := id
  good := fun h => h.set (n := .io) (by show 0x0F < 0x80; omega) v
  legal := id
  joypad := fun _ => by
    rw [State.io_eq_cell, State.io_eq_cell, s.cell_store_ne v (by decide)]

/-- The interrupt check keeps everything. -/
theorem State.interruptCheck_keeps (s : State) : s.Keeps s.interruptCheck := by
  obtain h | h | h | ⟨ws, v, pc, sp, h⟩ := s.interruptCheck_cases <;> rw [h]
  · exact .of_eq rfl rfl rfl id rfl rfl
  · exact .exitHalt s
  · exact .of_eq rfl rfl rfl id rfl rfl
  · exact (State.Keeps.exitHalt s).trans ((State.Keeps.writes ws).trans
      ((State.Keeps.storeIf v).trans (.of_eq rfl rfl rfl id rfl rfl)))

/-- The interrupt check moves `clk.total` by at most 24, and no other counter (R406). -/
theorem State.interruptCheck_clocks (s : State) :
    s.interruptCheck.clkMode = s.clkMode ∧ s.clkTotal ≤ s.interruptCheck.clkTotal ∧
      s.interruptCheck.clkTotal ≤ s.clkTotal + 24 := by
  have he := s.exitHalt_clocks
  obtain h | h | h | ⟨ws, v, pc, sp, h⟩ := s.interruptCheck_cases
  · rw [h]; omega
  · rw [h]; omega
  · rw [h]; exact ⟨rfl, Nat.le_refl _, Nat.le_add_right _ _⟩
  · have hm := (State.writes_frame ws s.exitHalt).2.2.2.2.2.1
    rw [h]
    simp only [State.store_clkMode]
    exact ⟨hm.trans he.1, by omega, by omega⟩

/-- The PPU's tick keeps everything. -/
theorem State.ppuTick_keeps (s : State) : s.Keeps s.ppuTick where
  cart := by rw [s.ppuTick_eq]
  boot := by rw [s.ppuTick_eq]
  cfg := by rw [s.ppuTick_eq]
  overlay := by rw [s.ppuTick_eq]; exact id
  good := State.ppuTick_good
  legal := by rw [s.ppuTick_eq]; exact id
  joypad := fun _ => by
    have hio (t : State) (k : Nat) (hk : (ArrayName.io, 0x00) ≠ (ArrayName.io, k)) (v : Byte) :
        (t.store .io k v).io 0x00 = t.io 0x00 := t.cell_store_ne v hk
    congr 1
    unfold State.ppuTick
    split
    · rfl
    split
    · rfl
    split
    · rfl
    unfold State.ppuTransition
    split
    · rfl
    · dsimp only
      split
      · rw [State.renderScanline_eq]; rfl
      · rfl
    · dsimp only
      split
      · exact (hio (State.store _ .io 0x44 _) 0x0F (by decide) _).trans (hio _ 0x44 (by decide) _)
      · exact hio _ 0x44 (by decide) _
    · dsimp only
      split
      · exact hio _ 0x44 (by decide) _
      · exact hio _ 0x44 (by decide) _

theorem State.endEiDelay_keeps (w : Bool) (s : State) : s.Keeps (s.endEiDelay w) :=
  .of_eq (by simp) (by simp) (by simp) (by simp) (by simp) (by simp)

/-- A CPU tick keeps everything, and moves `clk.total` by at most 48 (R406). -/
theorem State.cpuTick_keeps {u : State} (hf : s.fault = none) (hr : s.run ≠ .stopped) (h : s.cpuTick = .next u) :
    s.Keeps u ∧ u.clkMode = s.clkMode ∧ s.clkTotal ≤ u.clkTotal ∧ u.clkTotal ≤ s.clkTotal + 48 ∧
      (u.fault = none → s.clkTotal + 4 ≤ u.clkTotal) := by
  obtain ⟨u', hu, hc⟩ := State.cpuTick_cases hf hr
  rw [h] at hu
  injection hu with hu
  subst hu
  have hk := s.interruptCheck_keeps
  have hclk := s.interruptCheck_clocks
  generalize s.interruptCheck = c at hk hclk hc
  obtain ⟨rfl, hcf⟩ | ⟨hcf, hch, rfl⟩ | ⟨hcf, hch, b, f, hb, rfl⟩ | ⟨hcf, hch, b, i, t, hb, -, -, he, rfl⟩ := hc
  · exact ⟨hk, by omega, by omega, by omega, fun h => absurd h hcf⟩
  · refine ⟨hk.trans (.of_eq rfl rfl rfl id rfl rfl), ?_⟩
    simp only [State.advance, haltIdleCycles]
    exact ⟨by omega, by omega, by omega, fun _ => by omega⟩
  · exact ⟨hk.trans (.of_eq rfl rfl rfl hb rfl rfl), by show c.clkMode = _; omega, by show _ ≤ c.clkTotal; omega,
      by show c.clkTotal ≤ _; omega, nofun⟩
  · have h1 := he.clocks
    simp only at h1
    refine ⟨hk.trans (State.Keeps.trans (t := { c with bootActive := b }) (.of_eq rfl rfl rfl hb rfl rfl)
      (he.keeps.trans (State.endEiDelay_keeps _ _))), ?_⟩
    rw [State.endEiDelay_clkMode, State.endEiDelay_clkTotal, State.endEiDelay_fault]
    exact ⟨by omega, by omega, by omega, fun h => by have := h1.2.2.2 h; omega⟩

end Sys2Proof.Machine
end

