-- ==== Sys2Proof/Tests/Slice0.lean ====
section
/-! SUPPORT. The model's own tests: words written out from the spec's encodings, one step on a small state for the vectors
of spec/95_test_vectors.md (the expected values are that file's, derived there by hand from the rules), and a witness for
the hypotheses of every statement that has some. -/
namespace Sys2Proof.Tests
open Sys2Proof.Machine

/-! ## Helpers -/

/-- "start-nb" with a 32 KiB `RomOnly` image, zero but for `bytes` at `base` (95_test_vectors.md, conventions); the bytes at
0x0100 are the instruction under test. -/
def progAt (base : Nat) (bytes : List Byte) : State :=
  { State.reset with
    cart := { rom := { size := 0x8000, cells := Memory.ofBytes base bytes }, mbc := .romOnly, ramBanks := 0 } }

/-- `progAt 0x0100`. -/
def prog (bytes : List Byte) : State := progAt 0x0100 bytes

/-- What one step's next state shows. -/
def after {α : Type} (s : State) (f : State → α) : Option α :=
  match step s with
  | .next t => some (f t)
  | _ => none

/-- The flags `Z N H C`. -/
def fl (z n h c : Bool) : Flags := ⟨z, n, h, c⟩

/-- The 16-bit registers and the clock after a step: `pc`, `sp`, `clk.total`. -/
def pcSpClk (t : State) : Word × Word × Nat := (t.pc, t.sp, t.clkTotal)

/-- `A`, the flags, `pc`, `clk.total`. -/
def aF (t : State) : Byte × Flags × Word × Nat := (t.regs.a, t.flags, t.pc, t.clkTotal)

/-- `B`, the flags, `pc`, `clk.total`. -/
def bF (t : State) : Byte × Flags × Word × Nat := (t.regs.b, t.flags, t.pc, t.clkTotal)


/-! ## Decoding: words written out from the field rules (30_encoding.md R152-R167) -/

/-- `01 ddd sss`: `LD D,E` (R162). -/
theorem test_decode_ld_reg_reg : decode [0b01010011#8] = .ok (.ld_D_E, []) := rfl
/-- Operand code 110 is `(HL)` (R155). -/
theorem test_decode_ld_reg_mem : decode [0b01111110#8] = .ok (.ld_A_indHL, []) := rfl
/-- `LD (HL),L` (R162). -/
theorem test_decode_ld_mem_reg : decode [0b01110101#8] = .ok (.ld_indHL_L, []) := rfl
/-- Both codes 110: `HALT` (R162). -/
theorem test_decode_halt : decode [0b01110110#8] = .ok (.halt, []) := rfl
/-- `00 ddd 110` and `d8` (R161). -/
theorem test_decode_ld_imm : decode [0b00101110#8, 0x9A#8] = .ok (.ld_L_d8 0x9A#8, []) := rfl
/-- `LD (BC),A` (R161). -/
theorem test_decode_ld_indBC : decode [0b00000010#8] = .ok (.ld_indBC_A, []) := rfl
/-- `LD A,(a16)`, low byte first (R153). -/
theorem test_decode_ld_a16 : decode [0b11111010#8, 0x34#8, 0xC2#8] = .ok (.ld_A_ind_a16 0xC234#16, []) := rfl
/-- `LDH (a8),A` (R164). -/
theorem test_decode_ldh : decode [0b11100000#8, 0x80#8] = .ok (.ldh_ind_a8_A 0x80#8, []) := rfl
/-- `00 rr0 001`: `rr` code 3 is `SP` (R156). -/
theorem test_decode_ld_pair : decode [0b00110001#8, 0xFE#8, 0xDF#8] = .ok (.ld_SP_d16 0xDFFE#16, []) := rfl
/-- `11 qq0 101`: `qq` code 3 is `AF` (R157). -/
theorem test_decode_push : decode [0b11110101#8] = .ok (.push_AF, []) := rfl
/-- `11 qq0 001` (R157). -/
theorem test_decode_pop : decode [0b11010001#8] = .ok (.pop_DE, []) := rfl
/-- `10 ooo sss`: operation 7 is `CP` (R159, R163). -/
theorem test_decode_alu_reg : decode [0b10111000#8] = .ok (.cp_B, []) := rfl
/-- Operation 3 is `SBC` (R159). -/
theorem test_decode_alu_mem : decode [0b10011110#8] = .ok (.sbc_A_indHL, []) := rfl
/-- `11 ooo 110`: operation 5 is `XOR` (R159, R164). -/
theorem test_decode_alu_imm : decode [0b11101110#8, 0x3C#8] = .ok (.xor_d8 0x3C#8, []) := rfl
/-- `00 ddd 100` (R161). -/
theorem test_decode_inc : decode [0b00110100#8] = .ok (.inc_indHL, []) := rfl
/-- `00 100 111` (R161). -/
theorem test_decode_daa : decode [0b00100111#8] = .ok (.daa, []) := rfl
/-- `00 rr1 001` (R161). -/
theorem test_decode_add_hl : decode [0b00101001#8] = .ok (.add_HL_HL, []) := rfl
/-- `00 rr1 011` (R161). -/
theorem test_decode_dec_pair : decode [0b00111011#8] = .ok (.dec_SP, []) := rfl
/-- `00 010 111` (R161). -/
theorem test_decode_rotate_a : decode [0b00010111#8] = .ok (.rla, []) := rfl
/-- `CB 00 ooo sss`: operation 5 is `SRA` (R160, R165). -/
theorem test_decode_shift : decode [0b11001011#8, 0b00101010#8] = .ok (.sra_D, []) := rfl
/-- `CB 01 bbb sss` (R165). -/
theorem test_decode_bit : decode [0b11001011#8, 0b01011110#8] = .ok (.bit_3_indHL, []) := rfl
/-- `CB 10 bbb sss` (R165). -/
theorem test_decode_res : decode [0b11001011#8, 0b10111000#8] = .ok (.res_7_B, []) := rfl
/-- `CB 11 bbb sss` (R165). -/
theorem test_decode_set : decode [0b11001011#8, 0b11001111#8] = .ok (.set_1_A, []) := rfl
/-- `00 1cc 000`: `cc` code 2 is `NC` (R158, R161). -/
theorem test_decode_jr : decode [0b00110000#8, 0x7F#8] = .ok (.jr_NC_e8 0x7F#8, []) := rfl
/-- `11 0cc 010` (R158, R164). -/
theorem test_decode_jp : decode [0b11001010#8, 0x50#8, 0x01#8] = .ok (.jp_Z_a16 0x0150#16, []) := rfl
/-- `11 0cc 100` (R164). -/
theorem test_decode_call : decode [0b11011100#8, 0x34#8, 0x12#8] = .ok (.call_C_a16 0x1234#16, []) := rfl
/-- `11 0cc 000` (R164). -/
theorem test_decode_ret : decode [0b11000000#8] = .ok (.ret_NZ, []) := rfl
/-- `11 ttt 111` (R164). -/
theorem test_decode_rst : decode [0b11110111#8] = .ok (.rst_30H, []) := rfl
/-- `STOP` reads its ignored byte (R152, R161). -/
theorem test_decode_stop : decode [0b00010000#8, 0x55#8] = .ok (.stop 0x55#8, []) := rfl
/-- An unassigned value is read alone (R167). -/
theorem test_decode_unassigned : decode [0b11101101#8] = .ok (.unassigned_ED, []) := rfl
/-- The host's words: 16-bit words with the prefix in the high byte of the table's own writing (log 8). -/
theorem test_decode_table_words :
    decodeTableWord 8 0x41 = some .ld_B_C ∧ decodeTableWord 16 0x423E = some (.ld_A_d8 0x42#8) ∧
      decodeTableWord 16 0xCB37 = some .swap_A ∧ decodeTableWord 24 0x123421 = some (.ld_HL_d16 0x1234#16) ∧
      decodeTableWord 8 0xCB = some .rlc_B := ⟨rfl, rfl, rfl, rfl, rfl⟩
/-- A list that ends before the instruction does is refused by name (R152). -/
theorem test_decode_truncated :
    decode [] = .error .noOpcode ∧ decode [0x3E#8] = .error (.truncated 0x3E#8) ∧
      decode [0xC3#8, 0x50#8] = .error (.truncated 0xC3#8) ∧ decode [0xCB#8] = .error (.truncated 0xCB#8) :=
  ⟨rfl, rfl, rfl, rfl⟩

/-! ## WellFormed -/

/-- The one check: the row `PREFIX CB` is not an instruction of its own (R375). -/
theorem test_wellFormed_refuses_prefix : (Instr.prefix_CB 0x37#8).wellFormed = false := by decide
/-- The `CB` row that the prefix selects is. -/
theorem test_wellFormed_accepts_swap : Instr.swap_A.wellFormed = true ∧ (Instr.stop 0xFF#8).wellFormed = true := by decide

/-! ## 8-bit loads (95_test_vectors.md Part 2 section 1) -/

theorem test_ld_B_C : after (prog [0x41#8]) bF = some (0x13#8, fl true false true true, 0x0101#16, 4) := by decide
theorem test_ld_A_A : after (prog [0x7F#8]) aF = some (0x01#8, fl true false true true, 0x0101#16, 4) := by decide
theorem test_ld_A_d8 :
    after (prog [0x3E#8, 0x7F#8]) aF =
      some (0x7F#8, fl true false true true, 0x0102#16, 8) := by decide
theorem test_ld_D_indHL :
    after (((prog [0x56#8]).setHL 0xC100#16).busWrite 0xC100#16 0x5C#8) (fun t => (t.regs.d, t.pc, t.clkTotal)) =
      some (0x5C#8, 0x0101#16, 8) := by decide
theorem test_ld_indHL_A :
    after (((prog [0x77#8]).setHL 0xC100#16).setReg .A 0x77#8) (fun t => (t.peek 0xC100#16, t.clkTotal)) =
      some (some 0x77#8, 8) := by decide
theorem test_ld_indHL_H :
    after ((prog [0x74#8]).setHL 0xC100#16) (fun t => (t.peek 0xC100#16, t.clkTotal)) =
      some (some 0xC1#8, 8) := by decide
theorem test_ld_indHL_d8 :
    after ((prog [0x36#8, 0x99#8]).setHL 0xC100#16) (fun t => (t.peek 0xC100#16, t.pc, t.clkTotal)) =
      some (some 0x99#8, 0x0102#16, 12) := by decide
/-- An echo read. -/
theorem test_ld_A_indBC :
    after (((prog [0x0A#8]).setBC 0xE010#16).busWrite 0xC010#16 0x9E#8) aF =
      some (0x9E#8, fl true false true true, 0x0101#16, 8) := by decide
theorem test_ld_A_indDE :
    after (((prog [0x1A#8]).setDE 0xC020#16).busWrite 0xC020#16 0x44#8) aF =
      some (0x44#8, fl true false true true, 0x0101#16, 8) := by decide
theorem test_ld_indBC_A :
    after ((prog [0x02#8]).setBC 0xC030#16) (fun t => (t.peek 0xC030#16, t.clkTotal)) =
      some (some 0x01#8, 8) := by decide
/-- A write to the ROM window of `RomOnly`: no change. -/
theorem test_ld_indDE_A :
    after ((prog [0x12#8]).setDE 0x0000#16) (fun t => (t.bank, t.mem, t.clkTotal)) =
      some (BankRegs.initial, State.reset.mem, 8) := by decide
theorem test_ld_A_ind_a16 :
    after ((prog [0xFA#8, 0x34#8, 0xC2#8]).busWrite 0xC234#16 0xCD#8) aF =
      some (0xCD#8, fl true false true true, 0x0103#16, 16) := by decide
theorem test_ld_ind_a16_A :
    after ((prog [0xEA#8, 0x34#8, 0xC2#8]).setReg .A 0xAB#8) (fun t => (t.peek 0xC234#16, t.pc, t.clkTotal)) =
      some (some 0xAB#8, 0x0103#16, 16) := by decide
theorem test_ldh_A_ind_a8 :
    after ((prog [0xF0#8, 0x90#8]).busWrite 0xFF90#16 0x33#8) aF =
      some (0x33#8, fl true false true true, 0x0102#16, 12) := by decide
theorem test_ldh_ind_a8_A :
    after ((prog [0xE0#8, 0x80#8]).setReg .A 0x42#8) (fun t => (t.cell .hram 0x00, t.pc, t.clkTotal)) =
      some (0x42#8, 0x0102#16, 12) := by decide
theorem test_ld_indC_A :
    after ((prog [0xE2#8]).setReg .C 0x0F#8) (fun t => (t.io 0x0F, t.clkTotal)) =
      some (0xE1#8, 8) := by decide
theorem test_ld_A_indC :
    after (((prog [0xF2#8]).setReg .C 0x0F#8).busWrite 0xFF0F#16 0xE1#8) aF =
      some (0xE1#8, fl true false true true, 0x0101#16, 8) := by decide
theorem test_ld_indHLinc_A :
    after (((prog [0x22#8]).setHL 0xFFFF#16).setReg .A 0x1B#8) (fun t => (t.ie, t.hl, t.clkTotal)) =
      some (0x1B#5, 0x0000#16, 8) := by decide
theorem test_ld_A_indHLinc :
    after (((prog [0x2A#8]).setHL 0xC100#16).busWrite 0xC100#16 0x5C#8) (fun t => (t.regs.a, t.hl, t.clkTotal)) =
      some (0x5C#8, 0xC101#16, 8) := by decide
theorem test_ld_indHLdec_A :
    after (((prog [0x32#8]).setHL 0xC100#16).setReg .A 0x07#8) (fun t => (t.peek 0xC100#16, t.hl, t.clkTotal)) =
      some (some 0x07#8, 0xC0FF#16, 8) := by decide
theorem test_ld_A_indHLdec :
    after ((prog [0x3A#8]).setHL 0x0000#16) (fun t => (t.regs.a, t.hl, t.clkTotal)) =
      some (0x00#8, 0xFFFF#16, 8) := by decide

/-! ## 16-bit loads and the stack (section 2) -/

theorem test_ld_SP_d16 : after (prog [0x31#8, 0xFE#8, 0xDF#8]) pcSpClk = some (0x0103#16, 0xDFFE#16, 12) := by decide
theorem test_ld_HL_d16 :
    after (prog [0x21#8, 0x34#8, 0x12#8]) (fun t => (t.regs.h, t.regs.l, t.clkTotal)) =
      some (0x12#8, 0x34#8, 12) := by decide
theorem test_ld_ind_a16_SP :
    after ((prog [0x08#8, 0xFE#8, 0xFF#8]).setSp 0xFFF8#16) (fun t => (t.cell .hram 0x7E, t.ie, t.clkTotal)) =
      some (0xF8#8, 0x1F#5, 20) := by decide
theorem test_ld_ind_FFFF_SP :
    after ((prog [0x08#8, 0xFF#8, 0xFF#8]).setSp 0xFFF8#16) (fun t => (t.fault, t.pc, t.clkTotal)) =
      some (some (.addressError 0x10000), 0x0100#16, 0) := by decide
theorem test_ld_SP_HL : after ((prog [0xF9#8]).setHL 0xC080#16) pcSpClk = some (0x0101#16, 0xC080#16, 8) := by decide
theorem test_push_AF :
    after ((((prog [0xF5#8]).setReg .A 0x12#8).setFlags (fl true false false true)).setSp 0xD000#16) (fun t => (t.peek 0xCFFF#16, t.peek 0xCFFE#16, t.sp, t.clkTotal)) =
      some (some 0x12#8, some 0x90#8, 0xCFFE#16, 16) := by decide
theorem test_pop_AF :
    after ((((prog [0xF1#8]).busWrite 0xC000#16 0xFF#8).busWrite 0xC001#16 0x34#8).setSp 0xC000#16) (fun t => (t.regs.a, t.flags, t.sp, t.af, t.clkTotal)) =
      some (0x34#8, fl true true true true, 0xC002#16, 0x34F0#16, 12) := by decide
theorem test_push_BC_no_room :
    after ((prog [0xC5#8]).setSp 0x0001#16) (fun t => (t.fault, t.sp, t.clkTotal)) =
      some (some (.stackError 0x0001#16), 0x0001#16, 0) := by decide
/-- Both writes fall in the ROM window and are dropped. -/
theorem test_push_BC :
    after ((prog [0xC5#8]).setSp 0x0002#16) (fun t => (t.fault, t.sp, t.clkTotal)) =
      some (none, 0x0000#16, 16) := by decide
theorem test_pop_BC_no_room :
    after ((prog [0xC1#8]).setSp 0xFFFE#16) (fun t => (t.fault, t.sp, t.clkTotal)) =
      some (some (.stackError 0xFFFE#16), 0xFFFE#16, 0) := by decide
theorem test_pop_BC :
    after ((((prog [0xC1#8]).busWrite 0xFFFD#16 0x11#8).busWrite 0xFFFE#16 0x22#8).setSp 0xFFFD#16) (fun t => (t.bc, t.sp, t.clkTotal)) =
      some (0x2211#16, 0xFFFF#16, 12) := by decide
theorem test_ld_HL_SPe8 :
    after ((prog [0xF8#8, 0xFF#8]).setSp 0x0001#16) (fun t => (t.hl, t.sp, t.flags, t.clkTotal)) =
      some (0x0000#16, 0x0001#16, fl false false true true, 12) := by decide
theorem test_add_SP_e8 :
    after ((prog [0xE8#8, 0x80#8]).setSp 0xD000#16) (fun t => (t.sp, t.flags, t.clkTotal)) =
      some (0xCF80#16, fl false false false false, 16) := by decide
theorem test_add_SP_e8_wraps :
    after ((prog [0xE8#8, 0x01#8]).setSp 0xFFFF#16) (fun t => (t.sp, t.flags, t.fault)) =
      some (0x0000#16, fl false false true true, none) := by decide

/-! ## 8-bit arithmetic and logic (section 3) -/

theorem test_add_A_B :
    after ((((prog [0x80#8]).setReg .A 0x3A#8).setReg .B 0xC6#8).setFlags (fl true false true true)) aF =
      some (0x00#8, fl true false true true, 0x0101#16, 4) := by decide
theorem test_add_A_B_nibble :
    after ((((prog [0x80#8]).setReg .A 0x0F#8).setReg .B 0x01#8).setFlags (fl true false true true)) aF =
      some (0x10#8, fl false false true false, 0x0101#16, 4) := by decide
theorem test_add_A_A :
    after (((prog [0x87#8]).setReg .A 0x80#8).setFlags (fl false false false false)) aF =
      some (0x00#8, fl true false false true, 0x0101#16, 4) := by decide
theorem test_adc_A_B :
    after ((((prog [0x88#8]).setReg .A 0xE1#8).setReg .B 0x0F#8).setFlags (fl true false true true)) aF =
      some (0xF1#8, fl false false true false, 0x0101#16, 4) := by decide
theorem test_adc_A_B_full :
    after ((((prog [0x88#8]).setReg .A 0xFF#8).setReg .B 0xFF#8).setFlags (fl true false true true)) aF =
      some (0xFF#8, fl false false true true, 0x0101#16, 4) := by decide
/-- L1.1, with `H` as the formula gives it (90_conflicts.md C3). -/
theorem test_adc_A_d8 :
    after (((prog [0xCE#8, 0x02#8]).setReg .A 0xFD#8).setFlags (fl false false false true)) aF =
      some (0x00#8, fl true false true true, 0x0102#16, 8) := by decide
theorem test_sub_B :
    after ((((prog [0x90#8]).setReg .A 0x3E#8).setReg .B 0x0F#8).setFlags (fl true false true true)) aF =
      some (0x2F#8, fl false true true false, 0x0101#16, 4) := by decide
theorem test_sub_B_borrow :
    after ((((prog [0x90#8]).setReg .A 0x3E#8).setReg .B 0x40#8).setFlags (fl true false true false)) aF =
      some (0xFE#8, fl false true false true, 0x0101#16, 4) := by decide
theorem test_sbc_A_B :
    after ((((prog [0x98#8]).setReg .A 0x10#8).setReg .B 0x0F#8).setFlags (fl true false true true)) aF =
      some (0x00#8, fl true true true false, 0x0101#16, 4) := by decide
theorem test_sbc_A_B_both :
    after ((((prog [0x98#8]).setReg .A 0x00#8).setReg .B 0xFF#8).setFlags (fl true false true true)) aF =
      some (0x00#8, fl true true true true, 0x0101#16, 4) := by decide
theorem test_cp_B :
    after ((((prog [0xB8#8]).setReg .A 0x3C#8).setReg .B 0x2F#8).setFlags (fl true false true false)) aF =
      some (0x3C#8, fl false true true false, 0x0101#16, 4) := by decide
theorem test_cp_B_less :
    after ((((prog [0xB8#8]).setReg .A 0x3C#8).setReg .B 0x40#8).setFlags (fl true false true false)) aF =
      some (0x3C#8, fl false true false true, 0x0101#16, 4) := by decide
theorem test_and_B :
    after ((((prog [0xA0#8]).setReg .A 0x5A#8).setReg .B 0x3F#8).setFlags (fl true false true true)) aF =
      some (0x1A#8, fl false false true false, 0x0101#16, 4) := by decide
theorem test_xor_B :
    after ((((prog [0xA8#8]).setReg .A 0xFF#8).setReg .B 0x0F#8).setFlags (fl true false true true)) aF =
      some (0xF0#8, fl false false false false, 0x0101#16, 4) := by decide
theorem test_or_B :
    after ((((prog [0xB0#8]).setReg .A 0x00#8).setReg .B 0x00#8).setFlags (fl true false true true)) aF =
      some (0x00#8, fl true false false false, 0x0101#16, 4) := by decide
theorem test_xor_A :
    after ((prog [0xAF#8]).setReg .A 0xFF#8) aF =
      some (0x00#8, fl true false false false, 0x0101#16, 4) := by decide
theorem test_sub_indHL :
    after ((((prog [0x96#8]).setReg .A 0x00#8).setHL 0xC000#16).busWrite 0xC000#16 0x01#8) aF =
      some (0xFF#8, fl false true true true, 0x0101#16, 8) := by decide
theorem test_inc_B :
    after (((prog [0x04#8]).setReg .B 0xFF#8).setFlags (fl false false false true)) bF =
      some (0x00#8, fl true false true true, 0x0101#16, 4) := by decide
theorem test_inc_B_sign :
    after (((prog [0x04#8]).setReg .B 0x7F#8).setFlags (fl false true false true)) bF =
      some (0x80#8, fl false false true true, 0x0101#16, 4) := by decide
theorem test_dec_B :
    after (((prog [0x05#8]).setReg .B 0x00#8).setFlags (fl false false false false)) bF =
      some (0xFF#8, fl false true true false, 0x0101#16, 4) := by decide
theorem test_dec_B_zero :
    after (((prog [0x05#8]).setReg .B 0x01#8).setFlags (fl false false false true)) bF =
      some (0x00#8, fl true true false true, 0x0101#16, 4) := by decide
theorem test_inc_indHL :
    after ((((prog [0x34#8]).setFlags (fl false false false false)).setHL 0xC000#16).busWrite 0xC000#16 0xFF#8) (fun t => (t.peek 0xC000#16, t.flags, t.clkTotal)) =
      some (some 0x00#8, fl true false true false, 12) := by decide
theorem test_dec_indHL :
    after ((((prog [0x35#8]).setFlags (fl false false false true)).setHL 0xC000#16).busWrite 0xC000#16 0x00#8) (fun t => (t.peek 0xC000#16, t.flags, t.clkTotal)) =
      some (some 0xFF#8, fl false true true true, 12) := by decide
theorem test_daa_add :
    after (((prog [0x27#8]).setReg .A 0x9A#8).setFlags (fl false false true false)) aF =
      some (0x00#8, fl true false false true, 0x0101#16, 4) := by decide
theorem test_daa_subtract :
    after (((prog [0x27#8]).setReg .A 0x66#8).setFlags (fl false true true true)) aF =
      some (0x00#8, fl true true false true, 0x0101#16, 4) := by decide
theorem test_cpl :
    after (((prog [0x2F#8]).setReg .A 0x35#8).setFlags (fl true false false true)) aF =
      some (0xCA#8, fl true true true true, 0x0101#16, 4) := by decide
theorem test_scf :
    after ((prog [0x37#8]).setFlags (fl true true true false)) (fun t => t.flags) =
      some (fl true false false true) := by decide
theorem test_ccf :
    after ((prog [0x3F#8]).setFlags (fl true true true true)) (fun t => t.flags) =
      some (fl true false false false) := by decide

/-! ## 16-bit arithmetic (section 4) -/

theorem test_add_HL_BC :
    after (((prog [0x09#8]).setHL 0x8A23#16).setBC 0x0605#16 |>.setFlags (fl true false false false)) (fun t => (t.hl, t.flags, t.clkTotal)) =
      some (0x9028#16, fl true false true false, 8) := by decide
theorem test_add_HL_BC_carry :
    after (((prog [0x09#8]).setHL 0x8000#16).setBC 0x8000#16 |>.setFlags (fl false true false false)) (fun t => (t.hl, t.flags, t.clkTotal)) =
      some (0x0000#16, fl false false false true, 8) := by decide
theorem test_add_HL_HL :
    after ((prog [0x29#8]).setHL 0x8A23#16) (fun t => (t.hl, t.flags)) =
      some (0x1446#16, fl true false true true) := by decide
theorem test_add_HL_SP :
    after ((((prog [0x39#8]).setFlags (fl false false false false)).setHL 0x0001#16).setSp 0xFFFF#16) (fun t => (t.hl, t.flags)) =
      some (0x0000#16, fl false false true true) := by decide
theorem test_inc_BC :
    after ((prog [0x03#8]).setBC 0xFFFF#16) (fun t => (t.bc, t.flags, t.clkTotal)) =
      some (0x0000#16, fl true false true true, 8) := by decide
theorem test_inc_SP :
    after ((prog [0x33#8]).setSp 0xFFFF#16) (fun t => (t.sp, t.fault, t.clkTotal)) =
      some (0x0000#16, none, 8) := by decide
theorem test_dec_SP :
    after ((prog [0x3B#8]).setSp 0x0000#16) (fun t => (t.sp, t.fault, t.clkTotal)) =
      some (0xFFFF#16, none, 8) := by decide
theorem test_dec_BC :
    after ((prog [0x0B#8]).setBC 0x0000#16) (fun t => (t.bc, t.flags, t.clkTotal)) =
      some (0xFFFF#16, fl true false true true, 8) := by decide

/-! ## Rotates, shifts and bit operations (section 5) -/

theorem test_rlca :
    after (((prog [0x07#8]).setReg .A 0x85#8).setFlags (fl false false false false)) aF =
      some (0x0B#8, fl false false false true, 0x0101#16, 4) := by decide
theorem test_rlca_zero :
    after (((prog [0x07#8]).setReg .A 0x00#8).setFlags (fl true false false false)) aF =
      some (0x00#8, fl false false false false, 0x0101#16, 4) := by decide
theorem test_rrca :
    after (((prog [0x0F#8]).setReg .A 0x3B#8).setFlags (fl false false false false)) aF =
      some (0x9D#8, fl false false false true, 0x0101#16, 4) := by decide
theorem test_rla :
    after (((prog [0x17#8]).setReg .A 0x95#8).setFlags (fl false false false true)) aF =
      some (0x2B#8, fl false false false true, 0x0101#16, 4) := by decide
theorem test_rla_zero :
    after (((prog [0x17#8]).setReg .A 0x80#8).setFlags (fl false false false false)) aF =
      some (0x00#8, fl false false false true, 0x0101#16, 4) := by decide
theorem test_rra :
    after (((prog [0x1F#8]).setReg .A 0x81#8).setFlags (fl false false false false)) aF =
      some (0x40#8, fl false false false true, 0x0101#16, 4) := by decide
theorem test_rra_carry :
    after (((prog [0x1F#8]).setReg .A 0x01#8).setFlags (fl false false false true)) aF =
      some (0x80#8, fl false false false true, 0x0101#16, 4) := by decide
theorem test_rlc_B :
    after (((prog [0xCB#8, 0x00#8]).setReg .B 0x85#8).setFlags (fl false false false false)) bF =
      some (0x0B#8, fl false false false true, 0x0102#16, 8) := by decide
theorem test_rlc_B_zero :
    after (((prog [0xCB#8, 0x00#8]).setReg .B 0x00#8).setFlags (fl false false false true)) bF =
      some (0x00#8, fl true false false false, 0x0102#16, 8) := by decide
theorem test_rrc_B :
    after (((prog [0xCB#8, 0x08#8]).setReg .B 0x01#8).setFlags (fl false false false false)) bF =
      some (0x80#8, fl false false false true, 0x0102#16, 8) := by decide
theorem test_rl_B :
    after (((prog [0xCB#8, 0x10#8]).setReg .B 0x80#8).setFlags (fl false false false false)) bF =
      some (0x00#8, fl true false false true, 0x0102#16, 8) := by decide
theorem test_rl_B_carry :
    after (((prog [0xCB#8, 0x10#8]).setReg .B 0x11#8).setFlags (fl false false false true)) bF =
      some (0x23#8, fl false false false false, 0x0102#16, 8) := by decide
theorem test_rr_B :
    after (((prog [0xCB#8, 0x18#8]).setReg .B 0x01#8).setFlags (fl false false false false)) bF =
      some (0x00#8, fl true false false true, 0x0102#16, 8) := by decide
theorem test_rr_B_carry :
    after (((prog [0xCB#8, 0x18#8]).setReg .B 0x8A#8).setFlags (fl false false false true)) bF =
      some (0xC5#8, fl false false false false, 0x0102#16, 8) := by decide
theorem test_sla_B :
    after (((prog [0xCB#8, 0x20#8]).setReg .B 0xFF#8).setFlags (fl false false false false)) bF =
      some (0xFE#8, fl false false false true, 0x0102#16, 8) := by decide
theorem test_sra_B :
    after (((prog [0xCB#8, 0x28#8]).setReg .B 0x8A#8).setFlags (fl false false false false)) bF =
      some (0xC5#8, fl false false false false, 0x0102#16, 8) := by decide
theorem test_sra_B_zero :
    after (((prog [0xCB#8, 0x28#8]).setReg .B 0x01#8).setFlags (fl false false false false)) bF =
      some (0x00#8, fl true false false true, 0x0102#16, 8) := by decide
theorem test_swap_B :
    after (((prog [0xCB#8, 0x30#8]).setReg .B 0xF1#8).setFlags (fl false false false true)) bF =
      some (0x1F#8, fl false false false false, 0x0102#16, 8) := by decide
theorem test_swap_B_zero :
    after (((prog [0xCB#8, 0x30#8]).setReg .B 0x00#8).setFlags (fl false false false false)) bF =
      some (0x00#8, fl true false false false, 0x0102#16, 8) := by decide
theorem test_srl_B :
    after (((prog [0xCB#8, 0x38#8]).setReg .B 0xFF#8).setFlags (fl false false false false)) bF =
      some (0x7F#8, fl false false false true, 0x0102#16, 8) := by decide
theorem test_bit_7_B :
    after (((prog [0xCB#8, 0x78#8]).setReg .B 0x80#8).setFlags (fl false true false true)) bF =
      some (0x80#8, fl false false true true, 0x0102#16, 8) := by decide
theorem test_bit_7_B_clear :
    after (((prog [0xCB#8, 0x78#8]).setReg .B 0x7F#8).setFlags (fl false false false false)) bF =
      some (0x7F#8, fl true false true false, 0x0102#16, 8) := by decide
theorem test_bit_0_B :
    after (((prog [0xCB#8, 0x40#8]).setReg .B 0xFE#8).setFlags (fl false false false true)) bF =
      some (0xFE#8, fl true false true true, 0x0102#16, 8) := by decide
theorem test_res_0_B :
    after (((prog [0xCB#8, 0x80#8]).setReg .B 0xFF#8).setFlags (fl true true true true)) bF =
      some (0xFE#8, fl true true true true, 0x0102#16, 8) := by decide
theorem test_res_3_B :
    after (((prog [0xCB#8, 0x98#8]).setReg .B 0xF7#8).setFlags (fl false false false false)) bF =
      some (0xF7#8, fl false false false false, 0x0102#16, 8) := by decide
theorem test_set_7_B :
    after (((prog [0xCB#8, 0xF8#8]).setReg .B 0x00#8).setFlags (fl false false false false)) bF =
      some (0x80#8, fl false false false false, 0x0102#16, 8) := by decide
theorem test_rlc_indHL :
    after ((((prog [0xCB#8, 0x06#8]).setFlags (fl false false false false)).setHL 0xC000#16).busWrite 0xC000#16 0x80#8) (fun t => (t.peek 0xC000#16, t.flags, t.clkTotal)) =
      some (some 0x01#8, fl false false false true, 16) := by decide
theorem test_srl_indHL :
    after ((((prog [0xCB#8, 0x3E#8]).setFlags (fl false false false false)).setHL 0xC000#16).busWrite 0xC000#16 0x80#8) (fun t => (t.peek 0xC000#16, t.flags, t.clkTotal)) =
      some (some 0x40#8, fl false false false false, 16) := by decide
theorem test_swap_indHL :
    after ((((prog [0xCB#8, 0x36#8]).setFlags (fl false false false false)).setHL 0xC000#16).busWrite 0xC000#16 0x80#8) (fun t => (t.peek 0xC000#16, t.flags, t.clkTotal)) =
      some (some 0x08#8, fl false false false false, 16) := by decide
theorem test_bit_7_indHL :
    after ((((prog [0xCB#8, 0x7E#8]).setFlags (fl false false false false)).setHL 0xC000#16).busWrite 0xC000#16 0x80#8) (fun t => (t.peek 0xC000#16, t.flags, t.clkTotal)) =
      some (some 0x80#8, fl false false true false, 12) := by decide
theorem test_res_7_indHL :
    after ((((prog [0xCB#8, 0xBE#8]).setFlags (fl false false false false)).setHL 0xC000#16).busWrite 0xC000#16 0x80#8) (fun t => (t.peek 0xC000#16, t.flags, t.clkTotal)) =
      some (some 0x00#8, fl false false false false, 16) := by decide
theorem test_set_0_indHL :
    after ((((prog [0xCB#8, 0xC6#8]).setFlags (fl false false false false)).setHL 0xC000#16).busWrite 0xC000#16 0x80#8) (fun t => (t.peek 0xC000#16, t.flags, t.clkTotal)) =
      some (some 0x81#8, fl false false false false, 16) := by decide

/-! ## Jumps, calls and returns (section 6) -/

theorem test_jp_a16 : after (prog [0xC3#8, 0x50#8, 0x01#8]) pcSpClk = some (0x0150#16, 0xFFFE#16, 16) := by decide
theorem test_jp_NZ_not : after (prog [0xC2#8, 0x50#8, 0x01#8]) pcSpClk = some (0x0103#16, 0xFFFE#16, 12) := by decide
theorem test_jp_NZ :
    after ((prog [0xC2#8, 0x50#8, 0x01#8]).setFlags (fl false false false false)) pcSpClk =
      some (0x0150#16, 0xFFFE#16, 16) := by decide
theorem test_jp_NC_not : after (prog [0xD2#8, 0x50#8, 0x01#8]) pcSpClk = some (0x0103#16, 0xFFFE#16, 12) := by decide
theorem test_jp_C : after (prog [0xDA#8, 0x50#8, 0x01#8]) pcSpClk = some (0x0150#16, 0xFFFE#16, 16) := by decide
theorem test_jp_HL : after ((prog [0xE9#8]).setHL 0xC123#16) pcSpClk = some (0xC123#16, 0xFFFE#16, 4) := by decide
theorem test_jr_wraps :
    after ({ progAt 0x0010 [0x18#8, 0x80#8] with pc := 0x0010#16 }) pcSpClk =
      some (0xFF92#16, 0xFFFE#16, 12) := by decide
/-- L1.3. -/
theorem test_jr_L1_3 :
    after ({ progAt 0x000A [0x18#8, 0xFB#8] with pc := 0x000A#16 }) pcSpClk =
      some (0x0007#16, 0xFFFE#16, 12) := by decide
theorem test_jr_NZ_not : after (prog [0x20#8, 0x05#8]) pcSpClk = some (0x0102#16, 0xFFFE#16, 8) := by decide
theorem test_jr_NZ :
    after ((prog [0x20#8, 0x05#8]).setFlags (fl false false false false)) pcSpClk =
      some (0x0107#16, 0xFFFE#16, 12) := by decide
theorem test_jr_Z : after (prog [0x28#8, 0xFE#8]) pcSpClk = some (0x0100#16, 0xFFFE#16, 12) := by decide
theorem test_jr_NC :
    after ((prog [0x30#8, 0x7F#8]).setFlags (fl false false false false)) pcSpClk =
      some (0x0181#16, 0xFFFE#16, 12) := by decide
theorem test_jr_C : after (prog [0x38#8, 0x80#8]) pcSpClk = some (0x0082#16, 0xFFFE#16, 12) := by decide
theorem test_call_a16 :
    after ((prog [0xCD#8, 0x34#8, 0x12#8]).setSp 0xD000#16) (fun t => (t.peek 0xCFFF#16, t.peek 0xCFFE#16, pcSpClk t)) =
      some (some 0x01#8, some 0x03#8, 0x1234#16, 0xCFFE#16, 24) := by decide
/-- Not taken, so no push and no fault. -/
theorem test_call_NZ_not :
    after ((prog [0xC4#8, 0x34#8, 0x12#8]).setSp 0x0001#16) pcSpClk =
      some (0x0103#16, 0x0001#16, 12) := by decide
theorem test_call_NZ_no_room :
    after (((prog [0xC4#8, 0x34#8, 0x12#8]).setFlags (fl false false false false)).setSp 0x0001#16) (fun t => (t.fault, pcSpClk t)) =
      some (some (.stackError 0x0001#16), 0x0100#16, 0x0001#16, 0) := by decide
/-- L1.4. -/
theorem test_rst_08H :
    after (({ progAt 0x1FFF [0xCF#8] with pc := 0x1FFF#16 }).setSp 0xD000#16) (fun t => (t.peek 0xCFFF#16, t.peek 0xCFFE#16, pcSpClk t)) =
      some (some 0x20#8, some 0x00#8, 0x0008#16, 0xCFFE#16, 16) := by decide
theorem test_ret :
    after ((((prog [0xC9#8]).busWrite 0xC000#16 0x03#8).busWrite 0xC001#16 0x01#8).setSp 0xC000#16) pcSpClk =
      some (0x0103#16, 0xC002#16, 16) := by decide
theorem test_ret_Z :
    after ((((prog [0xC8#8]).busWrite 0xC000#16 0x03#8).busWrite 0xC001#16 0x01#8).setSp 0xC000#16) pcSpClk =
      some (0x0103#16, 0xC002#16, 20) := by decide
theorem test_ret_NZ_not : after (prog [0xC0#8]) pcSpClk = some (0x0101#16, 0xFFFE#16, 8) := by decide
theorem test_ret_NZ_no_room :
    after ((prog [0xC0#8]).setFlags (fl false false false false)) (fun t => (t.fault, pcSpClk t)) =
      some (some (.stackError 0xFFFE#16), 0x0100#16, 0xFFFE#16, 0) := by decide
theorem test_reti :
    after ((((prog [0xD9#8]).busWrite 0xC000#16 0x03#8).busWrite 0xC001#16 0x01#8).setSp 0xC000#16) (fun t => (t.ime, t.eiPending, pcSpClk t)) =
      some (true, false, 0x0103#16, 0xC002#16, 16) := by decide

/-! ## CPU control, faults, interrupts (sections 7 to 10) -/

theorem test_nop :
    after ({ progAt 0x7FFF [0x00#8] with pc := 0x7FFF#16 }) pcSpClk =
      some (0x8000#16, 0xFFFE#16, 4) := by decide
theorem test_ei :
    after (prog [0xFB#8, 0x00#8]) (fun t => (t.ime, t.eiPending, t.clkTotal)) =
      some (false, true, 4) := by decide
theorem test_ei_takes_effect :
    after ({ prog [0x00#8] with eiPending := true }) (fun t => (t.ime, t.eiPending, t.pc)) =
      some (true, false, 0x0101#16) := by decide
theorem test_di_cancels_ei :
    after ({ prog [0xF3#8] with eiPending := true }) (fun t => (t.ime, t.eiPending)) =
      some (false, false) := by decide
theorem test_ei_ei :
    after ({ prog [0xFB#8] with eiPending := true }) (fun t => (t.ime, t.eiPending)) =
      some (true, false) := by decide
theorem test_di :
    after ({ prog [0xF3#8] with ime := true }) (fun t => (t.ime, t.clkTotal)) =
      some (false, 4) := by decide
theorem test_stop :
    after (prog [0x10#8, 0x55#8]) (fun t => (t.run, t.pc, t.clkTotal)) =
      some (RunState.stopped, 0x0102#16, 4) := by decide
theorem test_stopped :
    after ({ prog [0x10#8] with run := .stopped }) id =
      some ({ prog [0x10#8] with run := .stopped }) := by decide
theorem test_halt :
    after (prog [0x76#8]) (fun t => (t.run, t.pc, t.clkTotal)) =
      some (RunState.halted, 0x0101#16, 4) := by decide
theorem test_halt_idles :
    after ({ prog [0x3C#8] with run := .halted }) (fun t => (t.run, t.pc, t.clkTotal)) =
      some (RunState.halted, 0x0100#16, 4) := by decide
/-- The halt ends, nothing is dispatched, and `INC A` runs in the same tick. -/
theorem test_halt_ends_without_ime :
    after (({ prog [0x3C#8] with run := .halted, ie := 0x04#5 }).busWrite 0xFF0F#16 0x04#8) (fun t => (t.run, t.regs.a, t.io 0x0F, t.pc, t.clkTotal)) =
      some (RunState.running, 0x02#8, 0xE4#8, 0x0101#16, 8) := by decide
theorem test_unassigned :
    after (prog [0xD3#8]) (fun t => (t.fault, t.pc, t.clkTotal)) =
      some (some (.opcodeError 0xD3#8 0x0100#16), 0x0100#16, 0) := by decide
/-- A faulted machine answers its fault (R501). -/
theorem test_faulted : step { prog [] with fault := some (.stackError 0x0001#16) } = .fault (.stackError 0x0001#16) := rfl
/-- "no cartridge": the first fetch raises `AddressError(0100)` (R116). -/
theorem test_no_cartridge :
    after State.reset (fun t => (t.fault, t.pc, t.clkTotal)) = some (some (.addressError 0x0100), 0x0100#16, 0) := by decide
/-- A fetch beyond a 16 KiB image mirrors bank 0 (R107). -/
theorem test_short_rom_mirrors :
    State.peek { State.reset with
      cart := { rom := { size := 0x4000, cells := [(0, 0x3C#8)] }, mbc := .romOnly, ramBanks := 0 } } 0x4000#16 =
      some 0x3C#8 := by decide
/-- An operand fetch that faults leaves the instruction undone (R507). -/
theorem test_operand_fetch_faults :
    after { State.reset with
      pc := 0x014F#16
      cart := { rom := { size := 0x0150, cells := [(0x014F, 0x3E#8)] }, mbc := .romOnly, ramBanks := 0 } }
      (fun t => (t.fault, t.regs.a, t.pc, t.clkTotal)) =
      some (some (.addressError 0x0150), 0x01#8, 0x014F#16, 0) := by decide

/-- Section 9, tick 2. -/
theorem test_interrupt_wakes_halt :
    after ((({ progAt 0x0060 [0x04#8] with pc := 0x0101#16, run := .halted, ime := true, ie := 0x10#5 }).setSp 0xD000#16).busWrite 0xFF0F#16 0x10#8) (fun t => (t.regs.b, t.run, t.ime, pcSpClk t)) =
      some (0x01#8, RunState.running, false, 0x0061#16, 0xCFFE#16, 28) := by decide
/-- I1, tick 1: source 2 before source 4. -/
theorem test_interrupt_priority :
    after ((({ progAt 0x0050 [0x3C#8] with ime := true, ie := 0x1F#5 }).setSp 0xD000#16).busWrite 0xFF0F#16 0x14#8) (fun t => (t.regs.a, t.ime, pcSpClk t)) =
      some (0x02#8, false, 0x0051#16, 0xCFFE#16, 24) := by decide
/-- I1, tick 1: its bit alone is cleared, and `pc` is on the stack. -/
theorem test_interrupt_clears_its_bit :
    after ((({ progAt 0x0050 [0x3C#8] with ime := true, ie := 0x1F#5 }).setSp 0xD000#16).busWrite 0xFF0F#16 0x14#8) (fun t => (t.io 0x0F, t.peek 0xCFFF#16, t.peek 0xCFFE#16)) =
      some (0xF0#8, some 0x01#8, some 0x00#8) := by decide
/-- I2. -/
theorem test_interrupt_masked :
    after (({ prog [0x00#8] with ie := 0x1F#5 }).busWrite 0xFF0F#16 0x01#8) (fun t => (t.io 0x0F, pcSpClk t)) =
      some (0xE1#8, 0x0101#16, 0xFFFE#16, 4) := by decide
/-- I4. -/
theorem test_interrupt_no_room :
    after ((({ prog [0x00#8] with ime := true, ie := 0x1F#5 }).setSp 0x0001#16).busWrite 0xFF0F#16 0x01#8) (fun t => (t.fault, t.ime, t.io 0x0F, t.pc, t.clkTotal)) =
      some (some (.stackError 0x0001#16), true, 0xE1#8, 0x0100#16, 0) := by decide

/-! ## The bus and the bank controllers (sections 11 and 12) -/

/-- A write followed by a read. -/
def rw (s : State) (a : Word) (v : Byte) (b : Word) : Option Byte := (s.busWrite a v).peek b

theorem test_bus_echo :
    rw (prog []) 0xC000#16 0x5A#8 0xE000#16 = some 0x5A#8 ∧ rw (prog []) 0xD123#16 0x77#8 0xF123#16 = some 0x77#8 ∧
      rw (prog []) 0xE001#16 0x12#8 0xC001#16 = some 0x12#8 ∧ rw (prog []) 0xFDFF#16 0x34#8 0xDDFF#16 = some 0x34#8 := by
  decide
theorem test_bus_unusable :
    (prog []).peek 0xFEA0#16 = some 0xAA#8 ∧ (prog []).peek 0xFEB7#16 = some 0xBB#8 ∧
      (prog []).peek 0xFEFF#16 = some 0xFF#8 ∧ (prog []).busWrite 0xFEB7#16 0x01#8 = prog [] := by decide
theorem test_bus_joypad :
    (prog []).peek 0xFF00#16 = some 0x0F#8 ∧ rw (prog []) 0xFF00#16 0x00#8 0xFF00#16 = some 0x0F#8 ∧
      rw (prog []) 0xFF00#16 0x30#8 0xFF00#16 = some 0x3F#8 := by decide
theorem test_bus_timer :
    rw (prog []) 0xFF04#16 0x5A#8 0xFF04#16 = some 0x00#8 ∧ rw (prog []) 0xFF07#16 0x05#8 0xFF07#16 = some 0xFD#8 := by
  decide
theorem test_bus_interrupt_flags :
    (prog []).peek 0xFF0F#16 = some 0xE0#8 ∧ rw (prog []) 0xFF0F#16 0x05#8 0xFF0F#16 = some 0xE5#8 ∧
      rw (prog []) 0xFFFF#16 0x56#8 0xFFFF#16 = some 0xF6#8 ∧ ((prog []).busWrite 0xFFFF#16 0x56#8).ie = 0x16#5 := by decide
theorem test_bus_bank_registers_dmg :
    rw (prog []) 0xFF4F#16 0x01#8 0xFF4F#16 = some 0xFF#8 ∧ rw (prog []) 0xFF70#16 0x02#8 0xFF70#16 = some 0xFF#8 := by
  decide

/-- A console in colour mode without a boot ROM. -/
def colour : State := { prog [] with cfg := { Config.default with colorModeNoBoot := true } }

theorem test_bus_vram_bank :
    rw (colour.busWrite 0x8000#16 0xA0#8) 0xFF4F#16 0xFF#8 0x8000#16 = some 0x00#8 ∧
      rw (colour.busWrite 0x8000#16 0xA0#8) 0xFF4F#16 0xFE#8 0x8000#16 = some 0xA0#8 := by decide
theorem test_bus_wram_bank :
    rw ((colour.busWrite 0xFF70#16 0x02#8).busWrite 0xD000#16 0x02#8) 0xFF70#16 0x0A#8 0xF000#16 = some 0x02#8 ∧
      rw ((colour.busWrite 0xFF70#16 0x02#8).busWrite 0xD000#16 0x02#8) 0xFF70#16 0x00#8 0xD000#16 = some 0x00#8 := by decide

/-- A 256-byte boot image whose first byte is 0x31, mapped. -/
def booting : State :=
  { prog [] with boot := some { size := 0x100, cells := [(0, 0x31#8), (0xFF, 0x50#8)] }, bootActive := true }

theorem test_overlay :
    booting.peek 0x0000#16 = some 0x31#8 ∧ booting.peek 0x0200#16 = some 0x00#8 ∧
      (booting.afterRead 0x0100#16).bootActive = false ∧ (booting.busWrite 0xFF50#16 0x00#8).bootActive = true ∧
      (booting.busWrite 0xFF50#16 0x01#8).bootActive = false ∧ rw booting 0xFF50#16 0x01#8 0xFF50#16 = some 0x01#8 := by
  decide

/-- A cartridge of 512 banks whose bank `k` starts with the byte `k mod 256`, for the banks the tests read. -/
def banked (m : Mbc) : State :=
  { State.reset with
    cart :=
      { rom := { size := 0x800000, cells := [(0x4000, 0x01#8), (0x44000, 0x11#8), (0x144000, 0x51#8), (0x404000, 0x01#8)] }
        mbc := m
        ramBanks := 4 } }

theorem test_mbc1 :
    rw (banked .mbc1) 0x2000#16 0x00#8 0x4000#16 = some 0x01#8 ∧ rw (banked .mbc1) 0x3FFF#16 0x11#8 0x4000#16 = some 0x11#8 ∧
      rw ((banked .mbc1).busWrite 0x4000#16 0x02#8) 0x2000#16 0x11#8 0x4000#16 = some 0x51#8 := by decide
theorem test_mbc5 :
    ((banked .mbc5).busWrite 0x2000#16 0x00#8).romNNBank = 0 ∧
      ((banked .mbc5).busWrite 0x3000#16 0x01#8).romNNBank = 0x101 := by decide
theorem test_mbc3_rtc_is_open :
    ((banked .mbc3).busWrite 0x0000#16 0x0A#8).xramCell 0 = some 0 ∧
      (((banked .mbc3).busWrite 0x0000#16 0x0A#8).busWrite 0x4000#16 0x08#8).xramCell 0 = none ∧
      ((banked .mbc3).busWrite 0x0000#16 0x0B#8).xramCell 0 = none := by decide

/-! ## The PPU and the frame -/

/-- A state whose LCD is on and whose PPU is in mode `m`, on line `ly`, `n` cycles past the last transition. -/
def lcd (m : PpuMode) (ly : Byte) (n : Nat) : State :=
  { ((prog []).busWrite 0xFF40#16 0x91#8).busWrite 0xFF44#16 ly with ppuMode := m, clkTotal := n }

/-- What a PPU tick moves. -/
def ppu (s : State) : PpuMode × Byte × Byte × Nat := (s.ppuTick.ppuMode, s.ppuTick.ly, s.ppuTick.io 0x0F, s.ppuTick.clkMode)

theorem test_ppu_oam : ppu (lcd .oam 0x00#8 80) = (.transfer, 0x00#8, 0x00#8, 80) ∧
    ppu (lcd .oam 0x00#8 79) = (.oam, 0x00#8, 0x00#8, 0) := by decide
theorem test_ppu_hblank : ppu (lcd .hblank 0x8E#8 206) = (.oam, 0x8F#8, 0x00#8, 206) ∧
    ppu (lcd .hblank 0x8F#8 206) = (.vblank, 0x90#8, 0x01#8, 206) := by decide
theorem test_ppu_vblank : ppu (lcd .vblank 0x98#8 456) = (.vblank, 0x99#8, 0x00#8, 456) ∧
    ppu (lcd .vblank 0x99#8 456) = (.oam, 0x00#8, 0x00#8, 456) := by decide
/-- Row 0 of tile 0 is the bit planes `3C`, `7E`: colour indices 0 2 3 3 3 3 2 0 (R445). -/
theorem test_tile_row :
    (List.range 8).map ((((lcd .transfer 0x00#8 170).busWrite 0x8000#16 0x3C#8).busWrite 0x8001#16 0x7E#8).colourIndex 0) =
      [0, 2, 3, 3, 3, 3, 2, 0] := by decide
/-- With `BGP = E4` the shade of a colour index is the index (R446). -/
theorem test_shade :
    (List.range 4).map ((lcd .oam 0x00#8 0).busWrite 0xFF47#16 0xE4#8).shadeOf = [0, 1, 2, 3] := by decide
/-- L1.6: a total of 70236 past the budget is reduced to 12 (R405). -/
theorem test_frame_boundary :
    after { prog [] with clkTotal := 70236, clkMode := 70224 } (fun t => (t.clkTotal, t.clkMode)) = some (12, 0) := by
  decide
/-- The loop's own body is what a step runs, and the loop stops where a step would not run it (R403). -/
theorem test_run_loop_of_faulted :
    (State.runFrame { prog [] with fault := some (.stackError 0x0000#16) }).1 = .faulted (.stackError 0x0000#16) := rfl

/-! ## Reset and the host's operations -/

/-- Reset is construction with the default parameters, then `start()` (log 1). -/
theorem test_reset_is_start : State.reset = (State.construct Config.default).start := by decide
/-- Reset memory is canonical. -/
theorem test_reset_memory_is_canonical : State.reset.mem.Good 0 := ⟨rfl, rfl, rfl, by decide, rfl, rfl, rfl, rfl⟩
/-- `withFetchWord`: the very next step after reset runs that instruction (log 2). -/
theorem test_withFetchWord :
    after (State.reset.withFetchWord 16 0x423E) aF = some (0x42#8, fl true false true true, 0x0102#16, 8) ∧
      after (State.reset.withFetchWord 16 0xCB37) (fun t => t.regs.a) = some 0x10#8 ∧
      after (State.reset.withFetchWord 24 0x0150C3) pcSpClk = some (0x0150#16, 0xFFFE#16, 16) := by decide
/-- An image of the least length, `Mbc5` with 4 banks of RAM. -/
def image : List Byte := List.replicate 0x147 0x00#8 ++ [0x1B#8, 0x00#8, 0x03#8] ++ List.replicate 6 0x00#8

theorem test_load_cartridge :
    ((State.reset.loadCartridge image).toOption.map (fun t => (t.cart.mbc, t.cart.ramBanks, t.cart.rom.size))) =
      some (.mbc5, 4, 0x150) := by decide +kernel
theorem test_load_refuses :
    (State.reset.loadCartridge [0x00#8] = .error (.tooShort 1)) ∧
      (State.reset.loadCartridge (image.set 0x147 0x05#8) = .error (.unsupportedType 0x05#8)) ∧
      (State.reset.loadCartridge (image.set 0x149 0x06#8) = .error (.unsupportedRamSize 0x06#8)) := by
  refine ⟨rfl, ?_, ?_⟩ <;> decide +kernel


/-- The debug snapshot copies ranges of the images, the arrays and `IE` directly: the overlay neither hides the ROM nor is
switched off, `IE` shows no fixed bits, and a range ends where its source does (R610). -/
theorem test_debug_snapshot_samples :
    ((({ booting with ie := 0x16#5 }).withFetchWord 8 0x3C).getDebugSnapshot
      [⟨.rom, 0x0100, 2⟩, ⟨.rom, 0x0000, 1⟩, ⟨.boot, 0xFE, 3⟩, ⟨.ie, 0, 1⟩, ⟨.array .hram, 0x7E, 2⟩, ⟨.array .xram, 0, 1⟩]).memoryRegionSamples =
      [[0x3C#8, 0x00#8], [0x00#8], [0x00#8, 0x50#8], [0x16#8], [0x00#8], []] := by decide
/-- Its other fields; the mode's number is that of R431. -/
theorem test_debug_snapshot_fields :
    (((prog []).getDebugSnapshot []).pc, ((prog []).getDebugSnapshot []).sp, ((prog []).getDebugSnapshot []).cycles,
      ((prog []).getDebugSnapshot []).ppuMode) = (0x0100#16, 0xFFFE#16, 0, 2) := by decide
/-- A console with no boot ROM has none to sample. -/
theorem test_debug_snapshot_no_boot : (prog []).sample ⟨.boot, 0, 4⟩ = [] := by decide

/-! ## Witnesses: a concrete state and operands that meet all the hypotheses of each statement that has some, for each
clause at boundary values of its range. The name says which statement of Certificates/Slice0/Obligations.lean. -/

/-- A console within the frame, running and not faulted, with no interrupt to take. -/
theorem prog_aboutToFetch (bytes : List Byte) : (prog bytes).AboutToFetch :=
  ⟨⟨rfl, (nomatch ·), Nat.zero_le _⟩, rfl, .inr rfl⟩

/-- What one instruction's next state shows. -/
def ran {α : Type} (i : Instr) (s : State) (f : State → α) : Option α :=
  match exec i s with
  | .next t => some (f t)
  | _ => none

/-- A RAM byte `v` at `a`, with `HL`, `BC` and `DE` pointing at it. -/
def pointing (a : Word) (v : Byte) : State := ((((prog []).busWrite a v).setHL a).setBC a).setDE a

/-- A cartridge whose ROM image is the shortest that loads, and zero. -/
def shortRom : State :=
  { State.reset with cart := { rom := { size := 0x150, cells := [] }, mbc := .romOnly, ramBanks := 0 } }

theorem witness_DecodeEncodeRoundTrip :
    Instr.halt.wellFormed = true ∧ (Instr.cp_d8 0xFF#8).wellFormed = true ∧
      (Instr.ld_ind_a16_SP 0xFFFF#16).wellFormed = true ∧ Instr.set_7_A.wellFormed = true ∧
      Instr.unassigned_FD.wellFormed = true := by decide
theorem witness_DecodedBytesAreTheEncoding :
    decode [0xCB#8, 0xFF#8, 0x00#8] = .ok (.set_7_A, [0x00#8]) ∧ decode [0x00#8] = .ok (.nop, []) ∧
      decode [0xC3#8, 0xFF#8, 0xFF#8] = .ok (.jp_a16 0xFFFF#16, []) := ⟨rfl, rfl, rfl⟩
/-- Lists of exactly the length that byte 0 asks for: three, two, two behind the prefix, one. -/
theorem witness_LengthIsAFunctionOfByte0 :
    decode [0xFA#8, 0x00#8, 0xC0#8] = .ok (.ld_A_ind_a16 0xC000#16, []) ∧ decode [0x10#8, 0x00#8] = .ok (.stop 0x00#8, []) ∧
      decode [0xCB#8, 0x00#8] = .ok (.rlc_B, []) ∧ decode [0x00#8] = .ok (.nop, []) := ⟨rfl, rfl, rfl, rfl⟩
/-- Where the bus returns no byte, at the first address past a short image and at 0x0100 with no cartridge; the witness of
that clause in every statement about an instruction that reads memory. -/
theorem witness_no_byte :
    (shortRom.setHL 0x0150#16).peek (shortRom.setHL 0x0150#16).hl = none ∧
      (shortRom.setBC 0x3FFF#16).peek (shortRom.setBC 0x3FFF#16).bc = none ∧
      (State.reset.setDE 0x0100#16).peek (State.reset.setDE 0x0100#16).de = none ∧ State.reset.peek 0x0000#16 = none := by
  decide
/-- The bus returns a byte at the pointer: at the ends of work RAM, at 0x0100, at the ends of the address space. -/
theorem witness_LoadsFromMemory :
    (pointing 0xC000#16 0x5A#8).peek (pointing 0xC000#16 0x5A#8).hl = some 0x5A#8 ∧
      (pointing 0xDFFF#16 0x5A#8).peek (pointing 0xDFFF#16 0x5A#8).bc = some 0x5A#8 ∧
      (pointing 0x0100#16 0x00#8).peek (pointing 0x0100#16 0x00#8).de = some 0x00#8 ∧
      (prog []).peek 0x7FFF#16 = some 0x00#8 ∧ (prog []).peek 0xFFFF#16 = some 0xE0#8 ∧
      (prog []).peek (0xFF00#16 + (0xFF#8).setWidth 16) = some 0xE0#8 ∧
      (prog []).peek (0xFF00#16 + (prog []).regs.c.setWidth 16) = some 0x00#8 := by decide
theorem witness_LoadsAndStoresThatStepHL :
    (pointing 0x0000#16 0x00#8).peek (pointing 0x0000#16 0x00#8).hl = some 0x00#8 ∧
      (pointing 0xFFFF#16 0x1F#8).peek (pointing 0xFFFF#16 0x1F#8).hl = some 0xFF#8 := by decide
/-- A load, a read-modify-write and a bit test whose byte lies past the image: its first missing byte, the last of a window,
and 0x0100 with no cartridge. -/
theorem witness_ReadBeyondTheRomImageFaults :
    (Instr.ld_A_ind_a16 0x0150#16).readAddr shortRom = some 0x0150#16 ∧ shortRom.peek 0x0150#16 = none ∧
      Instr.inc_indHL.readAddr (shortRom.setHL 0x3FFF#16) = some 0x3FFF#16 ∧ shortRom.peek 0x3FFF#16 = none ∧
      Instr.bit_0_indHL.readAddr (State.reset.setHL 0x0100#16) = some 0x0100#16 ∧ State.reset.peek 0x0100#16 = none ∧
      shortRom.peek 0x014F#16 = some 0x00#8 := by decide
theorem witness_StoreOfTheStackPointer : (0xFFFE#16 : Word) ≠ 0xFFFF#16 ∧ (0x0000#16 : Word) ≠ 0xFFFF#16 := by decide
/-- `sp` at 2, where a push still completes, and at 1, where it does not. -/
theorem witness_PushStoresAPair :
    0x0002 ≤ ((prog []).setSp 0x0002#16).sp.toNat ∧ ((prog []).setSp 0x0001#16).sp.toNat < 0x0002 := by decide
/-- A pop whose first byte lies past a short image, and one whose second does; the witness for `Returns` too. -/
theorem witness_no_stack_byte :
    (shortRom.setSp 0x0150#16).sp.toNat ≤ 0xFFFD ∧ (shortRom.setSp 0x0150#16).peek (shortRom.setSp 0x0150#16).sp = none ∧
      (shortRom.setSp 0x014F#16).peek (shortRom.setSp 0x014F#16).sp = some 0x00#8 ∧
      (shortRom.setSp 0x014F#16).peek ((shortRom.setSp 0x014F#16).sp + 1) = none ∧
      (shortRom.setSp 0x014F#16).flags.holds .Z = true := by decide
/-- `sp` at 0xFFFD, where a pop still completes (the bytes 0xFFFD and 0xFFFE), and at 0xFFFE, where it does not; and the
stack bytes on both sides of 0x0100. -/
theorem witness_PopLoadsAPair :
    ((prog []).setSp 0xFFFD#16).sp.toNat ≤ 0xFFFD ∧
      ((prog []).setSp 0xFFFD#16).peek ((prog []).setSp 0xFFFD#16).sp = some 0x00#8 ∧
      ((prog []).setSp 0xFFFD#16).peek (((prog []).setSp 0xFFFD#16).sp + 1) = some 0x00#8 ∧
      0xFFFD < (prog []).sp.toNat ∧
      (prog [0x12#8]).peek 0x00FF#16 = some 0x00#8 ∧ (prog [0x12#8]).peek 0x0100#16 = some 0x12#8 := by decide
/-- A stack in high RAM up to 0xFFFE, and one whose two bytes lie on both sides of 0xE000. -/
theorem witness_PushThenPopRestores :
    (prog []).mem.Good (prog []).cart.ramBanks ∧ 0x0002 ≤ ((prog []).setSp 0xFFFF#16).sp.toNat ∧
      ((prog []).setSp 0xFFFF#16).storesPlainly (0xFFFF#16 - 1) = true ∧
      ((prog []).setSp 0xFFFF#16).storesPlainly (0xFFFF#16 - 2) = true ∧
      ((prog []).setSp 0xE001#16).storesPlainly (0xE001#16 - 1) = true ∧
      ((prog []).setSp 0xE001#16).storesPlainly (0xE001#16 - 2) = true :=
  ⟨test_reset_memory_is_canonical, by decide, by decide, by decide, by decide, by decide⟩
theorem witness_AluOnMemory : (pointing 0xC000#16 0x7F#8).peek (pointing 0xC000#16 0x7F#8).hl = some 0x7F#8 := by decide
theorem witness_IncrementAndDecrement :
    (pointing 0xFEFF#16 0x00#8).peek (pointing 0xFEFF#16 0x00#8).hl = some 0xFF#8 ∧
      (pointing 0xDFFF#16 0xFF#8).peek (pointing 0xDFFF#16 0xFF#8).hl = some 0xFF#8 := by decide
theorem witness_DecimalAdjustCorrectsPackedDecimal : (99 : Nat) < 100 ∧ (0 : Nat) < 100 := by decide
theorem witness_RotatesAndShiftsOfMemory : (pointing 0x8000#16 0x81#8).peek (pointing 0x8000#16 0x81#8).hl = some 0x81#8 := by decide
theorem witness_BitTests : (pointing 0x0100#16 0x00#8).peek (pointing 0x0100#16 0x00#8).hl = some 0x00#8 := by decide
theorem witness_ResetAndSetBit : (pointing 0xFF80#16 0xFF#8).peek (pointing 0xFF80#16 0xFF#8).hl = some 0xFF#8 := by decide
/-- Room at `sp = 2`, none at 1; after reset `Z` holds and `NZ` does not. -/
theorem witness_CallsAndRestarts :
    0x0002 ≤ ((prog []).setSp 0x0002#16).sp.toNat ∧ ((prog []).setSp 0x0002#16).flags.holds .Z = true ∧
      (prog []).flags.holds .NZ = false ∧ ((prog []).setSp 0x0001#16).sp.toNat < 0x0002 ∧
      ((prog []).setSp 0x0001#16).flags.holds .C = true := by decide
theorem witness_Returns :
    ((prog []).setSp 0xFFFD#16).sp.toNat ≤ 0xFFFD ∧ ((prog []).setSp 0xFFFD#16).flags.holds .C = true ∧
      ((prog []).setSp 0xFFFD#16).peek ((prog []).setSp 0xFFFD#16).sp = some 0x00#8 ∧
      ((prog []).setSp 0xFFFD#16).peek (((prog []).setSp 0xFFFD#16).sp + 1) = some 0x00#8 ∧
      (prog []).flags.holds .NC = false ∧ 0xFFFD < (prog []).sp.toNat ∧ (prog []).flags.holds .Z = true := by decide
theorem witness_CallThenReturnResumes :
    (prog []).mem.Good (prog []).cart.ramBanks ∧ 0x0002 ≤ ((prog []).setSp 0xC002#16).sp.toNat ∧
      ((prog []).setSp 0xC002#16).storesPlainly (0xC002#16 - 1) = true ∧
      ((prog []).setSp 0xC002#16).storesPlainly (0xC002#16 - 2) = true ∧
      ((prog []).setSp 0xFFFF#16).storesPlainly (0xFFFF#16 - 1) = true ∧
      ((prog []).setSp 0xFFFF#16).storesPlainly (0xFFFF#16 - 2) = true :=
  ⟨test_reset_memory_is_canonical, by decide, by decide, by decide, by decide, by decide⟩
theorem witness_UnassignedOpcodesFault :
    (0xFD#8, Instr.unassigned_FD) ∈ Instr.unassigned ∧ (prog [0xFD#8]).AboutToFetch ∧
      (prog [0xFD#8]).peek (prog [0xFD#8]).pc = some 0xFD#8 := ⟨by decide, prog_aboutToFetch _, by decide⟩
theorem witness_PrefixRunsTheSelectedInstruction :
    fieldZ 0xFF#8 ≠ 6 ∧ fieldZ 0x46#8 = 6 ∧ fieldZ 0x06#8 = 6 ∧
      (pointing 0xC000#16 0x80#8).peek (pointing 0xC000#16 0x80#8).hl = some 0x80#8 := by decide
/-- A push that completes with both bytes in plain storage, and an address and a cell behind neither. -/
theorem witness_InstructionsStoreOnlyWhereTheySay :
    ran .push_BC ((prog []).setSp 0xE001#16) State.bootActive = some false ∧
      Instr.push_BC.storeAddrs ((prog []).setSp 0xE001#16) = [0xE000#16, 0xDFFF#16] ∧
      Instr.nop.storeAddrs (prog []) = [] := ⟨by decide, rfl, rfl⟩
theorem witness_InstructionsStoreOnlyWhereTheySay_addresses :
    (prog []).bootActive = false ∧ (prog []).storesPlainly 0xE000#16 = true ∧ (prog []).storesPlainly 0xDFFF#16 = true ∧
      (prog []).target 0xE000#16 = some (.wram, 0) ∧ (prog []).target 0xDFFF#16 = some (.wram, 0x1FFF) ∧
      (prog []).target 0xC001#16 = some (.wram, 1) := by decide
theorem witness_OtherInstructionsLeaveTheFlags :
    Instr.inc_BC.writesFlags = false ∧ (∃ t, exec .inc_BC (prog []) = .next t) ∧ Instr.set_7_A.writesFlags = false ∧
      (Instr.ld_A_d8 0x00#8).writesFlags = false ∧ Instr.cpl.writesFlags = true ∧ Instr.pop_AF.writesFlags = true :=
  ⟨by decide, ⟨_, rfl⟩, by decide, by decide, by decide, by decide⟩
/-- The last two: an instruction that completes, and one that raises in a state without a fault. -/
theorem witness_InstructionsLeaveTheUnitsAlone :
    Instr.reti ≠ .di ∧ Instr.reti ≠ .ei ∧ Instr.ei ≠ .di ∧ Instr.ei ≠ .reti ∧ Instr.ei ≠ .halt ∧
      (∀ x, Instr.halt ≠ .stop x) ∧
      (ran .nop (prog []) State.fault = some none) ∧ ((prog []).setSp 0x0001#16).fault = none ∧
      ran .push_BC ((prog []).setSp 0x0001#16) State.fault = some (some (.stackError 0x0001#16)) := by
  refine ⟨by decide, by decide, by decide, by decide, by decide, fun x => ?_, by decide, rfl, by decide⟩
  intro h
  cases h
/-- A 0x900-byte boot image, mapped. -/
def bootingLong : State := { prog [] with boot := some { size := 0x900, cells := [(0x08FF, 0x50#8)] }, bootActive := true }

/-- The ends of both overlay ranges, the last byte of an image and the first past one, and each way a ROM read ends. -/
theorem witness_BusReadMap :
    (bootingLong.boot = some { size := 0x900, cells := [(0x08FF, 0x50#8)] } ∧ bootingLong.bootActive = true ∧
      (0x00FF#16 : Word).toNat ≤ 0x00FF ∧ 0x0200 ≤ (0x0200#16 : Word).toNat ∧ (0x08FF#16 : Word).toNat ≤ 0x08FF ∧
      (0x08FF#16 : Word).toNat < 0x900) ∧
      (prog []).boot = none ∧
      1 % max ((prog []).cart.rom.size / 0x4000) 1 * 0x4000 + (0x7FFF#16 : Word).toNat % 0x4000 < (prog []).cart.rom.size ∧
      shortRom.cart.rom.size ≤ 0 % max (shortRom.cart.rom.size / 0x4000) 1 * 0x4000 + (0x0150#16 : Word).toNat % 0x4000 ∧
      0xE000 ≤ (0xE000#16 : Word).toNat ∧ (0xFDFF#16 : Word).toNat ≤ 0xFDFF ∧ 0xFEA0 ≤ (0xFEA0#16 : Word).toNat ∧
      (0xFEFF#16 : Word).toNat ≤ 0xFEFF ∧ (0xFF7F#16 : Word).toNat ≤ 0xFF7F ∧ 0xFF80 ≤ (0xFF80#16 : Word).toNat ∧
      (0xFFFE#16 : Word).toNat ≤ 0xFFFE ∧ (0xFFFF#16 : Word).toNat = 0xFFFF := by decide
/-- Colour mode on and off, by the parameter and by a boot image of 257 and of 256 bytes; and the work RAM bank field 0 and 7. -/
theorem witness_BusReadMap_banks :
    (prog []).boot = none ∧ (prog []).colorMode = false ∧ colour.boot = none ∧ colour.colorMode = true ∧
      booting.boot ≠ none ∧ booting.colorMode = false ∧
      ({ prog [] with boot := some { size := 0x101, cells := [] } } : State).colorMode = true ∧
      (colour.io 0x70).extractLsb' 0 3 = 0#3 ∧ ((colour.busWrite 0xFF70#16 0x07#8).io 0x70).extractLsb' 0 3 = 7#3 := by
  decide
/-- Plain storage and its echo: the first address of work RAM, and the last that has an alias. -/
theorem witness_StoreThenReadReturnsTheByte :
    (prog []).mem.Good (prog []).cart.ramBanks ∧ (prog []).storesPlainly 0xC000#16 = true ∧
      (prog []).target 0xE000#16 = (prog []).target 0xC000#16 ∧ (prog []).storesPlainly 0xFDFF#16 = true ∧
      (prog []).target 0xDDFF#16 = (prog []).target 0xFDFF#16 :=
  ⟨test_reset_memory_is_canonical, by decide, by decide, by decide, by decide⟩
theorem witness_BusWriteFrame :
    0x8000 ≤ (0x8000#16 : Word).toNat ∧ (prog []).target 0x7FFF#16 = none ∧ (prog []).target 0xFFFF#16 = none ∧
      (prog []).target 0xC000#16 ≠ some (.wram, 1) ∧ (prog []).storesPlainly 0xFF7F#16 = true ∧
      (prog []).target 0xFF80#16 ≠ (prog []).target 0xFF7F#16 := by decide
theorem witness_IoAccessRules :
    (prog []).mem.Good (prog []).cart.ramBanks ∧ (prog []).colorMode = false ∧
      colour.mem.Good colour.cart.ramBanks ∧ colour.colorMode = true :=
  ⟨test_reset_memory_is_canonical, by decide, test_reset_memory_is_canonical, by decide⟩
/-- Each variant, with RAM enabled and not, and the ends of each register window. -/
theorem witness_BankControllerRules :
    (prog []).cart.mbc = .romOnly ∧ (banked .mbc1).cart.mbc = .mbc1 ∧ (banked .mbc3).cart.mbc = .mbc3 ∧
      (banked .mbc30).cart.mbc = .mbc30 ∧ (banked .mbc5).cart.mbc = .mbc5 ∧
      (banked .mbc5).cart.ramBanks ≠ 0 ∧ ((banked .mbc5).busWrite 0x1FFF#16 0x0A#8).bank.ramEnable = true ∧
      ¬ ((banked .mbc5).cart.ramBanks ≠ 0 ∧ (banked .mbc5).bank.ramEnable = true) ∧
      (0x1FFF#16 : Word).toNat ≤ 0x1FFF ∧ 0x2000 ≤ (0x2000#16 : Word).toNat ∧ (0x2FFF#16 : Word).toNat ≤ 0x2FFF ∧
      0x3000 ≤ (0x3000#16 : Word).toNat ∧ (0x3FFF#16 : Word).toNat ≤ 0x3FFF ∧ 0x4000 ≤ (0x4000#16 : Word).toNat ∧
      (0x5FFF#16 : Word).toNat ≤ 0x5FFF ∧ 0x6000 ≤ (0x6000#16 : Word).toNat ∧ (0x7FFF#16 : Word).toNat ≤ 0x7FFF := by
  decide

/-- `LD HL,d16` whose three bytes lie at 0xFFFE, 0xFFFF and 0x0000: high RAM, `IE` and ROM. -/
def wrapping : State :=
  { (progAt 0x0000 [0x40#8]).busWrite 0xFFFE#16 0x21#8 with pc := 0xFFFE#16 }

theorem witness_StepRunsTheDecodedInstruction :
    (prog [0x3E#8, 0x42#8]).AboutToFetch ∧ decode [0x3E#8, 0x42#8] = .ok (.ld_A_d8 0x42#8, []) ∧
      (∀ k (h : k < [0x3E#8, 0x42#8].length),
        (prog [0x3E#8, 0x42#8]).peek ((prog [0x3E#8, 0x42#8]).pc + BitVec.ofNat 16 k) = some [0x3E#8, 0x42#8][k]) :=
  ⟨prog_aboutToFetch _, rfl, by decide⟩
/-- The same where the bytes wrap from 0xFFFF to 0x0000. -/
theorem witness_StepRunsTheDecodedInstruction_wrapping :
    wrapping.AboutToFetch ∧ decode [0x21#8, 0xE0#8, 0x40#8] = .ok (.ld_HL_d16 0x40E0#16, []) ∧
      (∀ k (h : k < [0x21#8, 0xE0#8, 0x40#8].length),
        wrapping.peek (wrapping.pc + BitVec.ofNat 16 k) = some [0x21#8, 0xE0#8, 0x40#8][k]) :=
  ⟨⟨⟨rfl, by decide, by decide⟩, rfl, .inr rfl⟩, rfl, by decide⟩
/-- Each clause: faulted, stopped, one cycle past the budget, halted at the budget. -/
theorem witness_StepsThatRunNoInstruction :
    ({ prog [] with fault := some (.stackError 0x0001#16) } : State).fault = some (.stackError 0x0001#16) ∧
      (({ prog [] with run := .stopped } : State).fault = none ∧ ({ prog [] with run := .stopped } : State).run = .stopped) ∧
      (({ prog [] with clkTotal := 70225 } : State).fault = none ∧
        ({ prog [] with clkTotal := 70225 } : State).run ≠ .stopped ∧ 70224 < ({ prog [] with clkTotal := 70225 } : State).clkTotal) ∧
      (({ prog [] with run := .halted, clkTotal := 70224 } : State).fault = none ∧
        ({ prog [] with run := .halted, clkTotal := 70224 } : State).clkTotal ≤ 70224 ∧
        ({ prog [] with run := .halted, clkTotal := 70224 } : State).pending = 0#5) := by decide
/-- `DI`, `RETI`, `EI` with and without a pending `EI`, and `NOP` with and without one. -/
theorem witness_EnableInterruptsIsDelayedByOneInstruction :
    (prog [0xFB#8]).AboutToFetch ∧ decode [0xFB#8] = .ok (.ei, []) ∧ decode [0xF3#8] = .ok (.di, []) ∧
      decode [0xD9#8] = .ok (.reti, []) ∧ decode [0x00#8] = .ok (.nop, []) ∧
      (∀ k (h : k < [0xFB#8].length), (prog [0xFB#8]).peek ((prog [0xFB#8]).pc + BitVec.ofNat 16 k) = some [0xFB#8][k]) ∧
      after (prog [0xFB#8]) State.fault = some none ∧ after (prog [0xF3#8]) State.fault = some none ∧
      after ((prog [0xD9#8]).setSp 0xC000#16) State.fault = some none ∧
      after { prog [0xFB#8] with eiPending := true } State.fault = some none ∧
      after { prog [0x00#8] with eiPending := true } State.fault = some none ∧
      after (prog [0x00#8]) State.fault = some none :=
  ⟨prog_aboutToFetch _, rfl, rfl, rfl, rfl, by decide, by decide, by decide, by decide, by decide, by decide, by decide⟩
/-- An opcode fault, and a fault after a dispatch in the same step. -/
theorem witness_FaultsArePrecise :
    (prog [0xD3#8]).Ticks ∧ after (prog [0xD3#8]) State.fault = some (some (.opcodeError 0xD3#8 0x0100#16)) ∧
      after (({ progAt 0x0040 [0xD3#8] with ime := true, ie := 0x01#5 }).busWrite 0xFF0F#16 0x01#8)
        (fun t => (t.fault, t.pc, t.clkTotal)) = some (some (.opcodeError 0xD3#8 0x0040#16), 0x0040#16, 20) :=
  ⟨(prog_aboutToFetch _).toTicks, by decide, by decide⟩
/-- The shortest cartridge that loads, with the cells and `pc` given, is about to fetch. -/
theorem shortRom_aboutToFetch (cells : Memory) (pc : Word) :
    ({ shortRom with pc := pc, cart := { shortRom.cart with rom := { size := 0x150, cells := cells } } } : State).AboutToFetch :=
  ⟨⟨rfl, (nomatch ·), Nat.zero_le _⟩, rfl, .inr rfl⟩

/-- `JP a16` at the last byte but one of the shortest image that loads, whose second operand byte is missing. -/
def cutJump : State :=
  { shortRom with
    pc := 0x014E#16
    cart := { shortRom.cart with rom := { size := 0x150, cells := [(0x014E, 0xC3#8)] } } }

/-- `LD A,d8` at its last byte, whose operand byte is missing. -/
def cutLoad : State :=
  { shortRom with
    pc := 0x014F#16
    cart := { shortRom.cart with rom := { size := 0x150, cells := [(0x014F, 0x3E#8)] } } }

/-- A missing opcode byte (no cartridge), a missing first operand byte, a missing second one. -/
theorem witness_FaultsArePrecise_fetch :
    (State.reset.AboutToFetch ∧ State.reset.peek (State.reset.pc + BitVec.ofNat 16 0) = none) ∧
      (cutLoad.AboutToFetch ∧ cutLoad.peek cutLoad.pc = some 0x3E#8 ∧
        decode [0x3E#8, 0#8, 0#8] = .ok (.ld_A_d8 0#8, [0#8]) ∧ 1 < (Instr.ld_A_d8 0#8).length ∧
        cutLoad.peek (cutLoad.pc + BitVec.ofNat 16 1) = none) ∧
      (cutJump.AboutToFetch ∧ cutJump.peek cutJump.pc = some 0xC3#8 ∧
        decode [0xC3#8, 0#8, 0#8] = .ok (.jp_a16 0#16, []) ∧ 2 < (Instr.jp_a16 0#16).length ∧
        (∀ j, j < 2 → (cutJump.peek (cutJump.pc + BitVec.ofNat 16 j)).isSome = true) ∧
        cutJump.peek (cutJump.pc + BitVec.ofNat 16 2) = none) :=
  ⟨⟨⟨⟨rfl, (nomatch ·), Nat.zero_le _⟩, rfl, .inr rfl⟩, by decide⟩,
    ⟨shortRom_aboutToFetch _ _, by decide, rfl, by decide, by decide⟩,
    ⟨shortRom_aboutToFetch _ _, by decide, rfl, by decide, by decide, by decide⟩⟩
/-- The fault of the operand fetch comes before the instruction's own: a push has no room at `sp = 1`, and `CALL` is cut. -/
theorem test_fetch_fault_comes_first :
    after ({ cutJump with sp := 0x0001#16, cart := { shortRom.cart with rom := { size := 0x150, cells := [(0x014E, 0xCD#8)] } } })
      (fun t => (t.fault, t.pc, t.clkTotal)) = some (some (.addressError 0x0150), 0x014E#16, 0) := by decide
/-- A step at the last count of the frame, and the longest one: a halt exit, a dispatch and a call. -/
theorem witness_TickCycleBounds :
    ({ prog [] with clkTotal := 70224 } : State).Ticks ∧
      after { prog [] with clkTotal := 70224 } (fun t => (t.fault, t.clkTotal)) = some (none, 70228) ∧
      after ((({ progAt 0x0040 [0xCD#8, 0x00#8, 0x20#8] with ime := true, ie := 0x01#5, run := .halted }).setSp
        0xD000#16).busWrite 0xFF0F#16 0x01#8) (fun t => (t.fault, t.clkTotal)) = some (none, 48) :=
  ⟨⟨rfl, by decide, by decide⟩, by decide, by decide⟩
/-- The reset state, and a console with a program, meet the invariant; both answer a next state. -/
theorem witness_StepKeepsTheInvariant :
    (State.reset.Inv ∧ ∃ t, step State.reset = .next t) ∧ (prog [0x3C#8]).Inv ∧ ∃ t, step (prog [0x3C#8]) = .next t :=
  ⟨⟨⟨test_reset_memory_is_canonical, rfl, by decide, by decide, by decide, by decide⟩, _, rfl⟩,
    ⟨test_reset_memory_is_canonical, by decide, by decide, by decide, by decide, by decide⟩, _, rfl⟩
/-- The same, at the largest counters the invariant allows: the step is then the frame boundary. -/
theorem witness_NoStepChangesConfigurationOrJoypad :
    ({ prog [] with clkTotal := 70272, clkMode := 70272 } : State).Inv ∧
      ∃ t, step { prog [] with clkTotal := 70272, clkMode := 70272 } = .next t :=
  ⟨⟨test_reset_memory_is_canonical, by decide, by decide, by decide, by decide, by decide⟩, _, rfl⟩

/-- A console with the requests `f` stored, every source enabled, and `sp`. -/
def requesting (f : Byte) (ime : Bool) (sp : Word) : State :=
  ({ prog [] with ime := ime, ie := 0x1F#5, sp := sp }).busWrite 0xFF0F#16 f

/-- Each clause: nothing pending, no room at `sp = 1`, masked, and the lowest and the highest source with room at 2. -/
theorem witness_InterruptCheckTakesTheLowestSource :
    (requesting 0x00#8 true 0x0002#16).pending = 0#5 ∧
      ((requesting 0x01#8 true 0x0001#16).pending ≠ 0#5 ∧ (requesting 0x01#8 true 0x0001#16).ime = true ∧
        (requesting 0x01#8 true 0x0001#16).sp.toNat < 0x0002) ∧
      ((requesting 0x1F#8 false 0x0001#16).pending ≠ 0#5 ∧ (requesting 0x1F#8 false 0x0001#16).ime = false) ∧
      ((requesting 0x1F#8 true 0x0002#16).pending.getLsbD 0 = true ∧ 0x0002 ≤ (requesting 0x1F#8 true 0x0002#16).sp.toNat) ∧
      ((requesting 0x10#8 true 0x0002#16).pending.getLsbD 4 = true ∧
        ∀ m, m < 4 → (requesting 0x10#8 true 0x0002#16).pending.getLsbD m = false) := by decide

/-- A VBlank request is taken and the handler's first byte is `INC A`. -/
def dispatching : State :=
  ({ progAt 0x0040 [0x3C#8] with ime := true, ie := 0x1F#5, sp := 0xD000#16 }).busWrite 0xFF0F#16 0x01#8

theorem witness_InterruptedStepRunsTheHandler :
    dispatching.Ticks ∧ dispatching.interruptCheck.fault = none ∧ dispatching.interruptCheck.run = .running ∧
      dispatching.interruptCheck.pc = 0x0040#16 ∧ decode [0x3C#8] = .ok (.inc_A, []) ∧
      (∀ k (h : k < [0x3C#8].length),
        dispatching.interruptCheck.peek (dispatching.interruptCheck.pc + BitVec.ofNat 16 k) = some [0x3C#8][k]) :=
  ⟨⟨rfl, by decide, by decide⟩, by decide, by decide, by decide, rfl, by decide⟩

/-- The gate of a mode is open with `n` cycles past the last transition. -/
def open' (s : State) (n : Nat) : Prop :=
  s.fault = none ∧ (s.io 0x40).getLsbD 7 = true ∧ s.clkMode + n ≤ s.clkTotal

/-- Each clause: the LCD off after reset, one cycle short of a gate, and each transition at its threshold and its `LY`. -/
theorem witness_PpuModeMachine :
    ((prog []).io 0x40).getLsbD 7 = false ∧ (lcd .vblank 0x99#8 455).clkTotal < (lcd .vblank 0x99#8 455).clkMode + 456 ∧
      open' (lcd .oam 0x00#8 80) 80 ∧
      (open' (lcd .transfer 0x8F#8 170) 170 ∧ (lcd .transfer 0x8F#8 170).ly.toNat ≤ 143) ∧
      (open' (lcd .transfer 0x90#8 170) 170 ∧ 143 < (lcd .transfer 0x90#8 170).ly.toNat) ∧
      (open' (lcd .hblank 0x8F#8 206) 206 ∧ (lcd .hblank 0x8F#8 206).ly = 143#8) ∧
      (open' (lcd .hblank 0x8E#8 206) 206 ∧ (lcd .hblank 0x8E#8 206).ly ≠ 143#8) ∧
      (open' (lcd .vblank 0x99#8 456) 456 ∧ (lcd .vblank 0x99#8 456).ly.toNat = 153) ∧
      (open' (lcd .vblank 0x98#8 456) 456 ∧ (lcd .vblank 0x98#8 456).ly.toNat ≠ 153) ∧
      ({ lcd .oam 0x00#8 80 with fault := some (.stackError 0x0001#16) } : State).fault ≠ none := by
  unfold open'
  decide
/-- The last pixel of the last visible line, at the threshold. -/
theorem witness_RenderedLine :
    (lcd .transfer 0x8F#8 170).fault = none ∧ ((lcd .transfer 0x8F#8 170).io 0x40).getLsbD 7 = true ∧
      (lcd .transfer 0x8F#8 170).ppuMode = .transfer ∧ (lcd .transfer 0x8F#8 170).clkMode + 170 ≤ (lcd .transfer 0x8F#8 170).clkTotal ∧
      (lcd .transfer 0x8F#8 170).ly.toNat ≤ 143 ∧ (159 : Nat) < 160 := by decide
theorem witness_ResetValues :
    Memory.wf Config.default.ioInit = true ∧ booting.boot ≠ none ∧ (prog []).boot = none := by decide
/-- An image one byte short, and one of the least length that loads; the overlay is off. -/
theorem witness_LoadedCartridge :
    (image.take 0x14F).length < 0x0150 ∧ (State.reset.loadCartridge image).toOption.isSome = true ∧ 0x14F < image.length ∧
      State.reset.bootActive = false ∧ State.reset.Inv :=
  ⟨by decide +kernel, by decide +kernel, by decide +kernel, rfl,
    ⟨test_reset_memory_is_canonical, rfl, by decide, by decide, by decide, by decide⟩⟩
/-- Images of exactly the least length: both bytes listed, only the type unlisted, only the RAM-size code (the first past the
list), and neither listed. -/
theorem witness_LoadedCartridge_header :
    ∃ (h : 0x0150 ≤ image.length), image[0x0147] = 0x1B#8 ∧ image[0x0149] = 0x03#8 ∧
      (image.set 0x147 0x05#8)[0x0147]? = some 0x05#8 ∧ (image.set 0x147 0x05#8)[0x0149]? = some 0x03#8 ∧
      (image.set 0x149 0x06#8)[0x0147]? = some 0x1B#8 ∧ (image.set 0x149 0x06#8)[0x0149]? = some 0x06#8 ∧
      ((image.set 0x147 0x1F#8).set 0x149 0xFF#8)[0x0147]? = some 0x1F#8 ∧
      ((image.set 0x147 0x1F#8).set 0x149 0xFF#8)[0x0149]? = some 0xFF#8 ∧
      ([0, 1, 1, 4, 16, 8] : List Nat)[(0x05#8 : Byte).toNat]? = some 8 ∧
      ([0, 1, 1, 4, 16, 8] : List Nat)[(0x06#8 : Byte).toNat]? = none :=
  ⟨by decide +kernel, by decide +kernel, by decide +kernel, by decide +kernel, by decide +kernel, by decide +kernel,
    by decide +kernel, by decide +kernel, by decide +kernel, rfl, rfl⟩

end Sys2Proof.Tests
end

section
/-! SUPPORT. The bus read map (20_memory.md R71): the byte a read returns where the overlay serves the address, in the ROM
windows, and from 0x8000 on, where no read has a side effect; then the settled obligation. -/
namespace Sys2Proof.Machine

variable (s : State)

/-! ## The overlay (R73, R74) -/

/-- The overlay serves an address of its two ranges that lies within the image. -/
theorem State.overlayByte_of_covered {a : Word} {img : Image} (hboot : s.boot = some img) (hact : s.bootActive = true)
    (hrange : a.toNat ≤ 0x00FF ∨ (0x0200 ≤ a.toNat ∧ a.toNat ≤ 0x08FF)) (hsize : a.toNat < img.size) :
    s.overlayByte a = some (img.cells.read a.toNat) := by
  simp [State.overlayByte, inOverlay, hboot, hact, hrange, hsize]

/-- An address that the overlay does not cover is served by its region. -/
theorem State.overlayByte_of_not_covered {a : Word}
    (h : ¬ ∃ img, s.boot = some img ∧ s.bootActive = true ∧
      (a.toNat ≤ 0x00FF ∨ (0x0200 ≤ a.toNat ∧ a.toNat ≤ 0x08FF)) ∧ a.toNat < img.size) :
    s.overlayByte a = none := by
  unfold State.overlayByte
  cases hboot : s.boot with
  | none => rfl
  | some img =>
    refine if_neg fun hc => h ?_
    simp only [inOverlay, Bool.and_eq_true, decide_eq_true_eq] at hc
    exact ⟨img, hboot, hc⟩

theorem State.peek_of_overlayByte {a : Word} {v : Byte} (h : s.overlayByte a = some v) : s.peek a = some v := by
  simp [State.peek, h]

theorem State.peek_of_overlayByte_none {a : Word} (h : s.overlayByte a = none) :
    s.peek a = s.regionByte (regionOf a) a := by
  simp [State.peek, h]

/-- The side effect of a read, by the address as a number (R74). -/
theorem State.afterRead_toNat (a : Word) :
    s.afterRead a = if a.toNat = 0x0100 then { s with bootActive := false } else s := by
  have ha : a.toNat = 0x0100 ↔ a = 0x0100#16 := BitVec.toNat_inj (y := 0x0100#16)
  simp only [State.afterRead, ha]

/-- A read of any address but 0x0100 has no side effect. -/
theorem State.busRead_of_peek_pure {a : Word} {v : Byte} (ha : a.toNat ≠ 0x0100) (h : s.peek a = some v) :
    s.busRead a = .ok v s := by
  rw [s.busRead_of_peek h, s.afterRead_toNat, if_neg ha]

/-! ## The ROM windows (R107, R115) -/

/-- A ROM address shows the bank of its window. -/
theorem State.regionByte_rom {a : Word} (h : a.toNat ≤ 0x7FFF) :
    s.regionByte (regionOf a) a = s.romByte (if a.toNat ≤ 0x3FFF then s.rom00Bank else s.romNNBank) a := by
  by_cases hlow : a.toNat ≤ 0x3FFF
  · rw [regionOf_rom00 hlow, if_pos hlow]; rfl
  · rw [regionOf_romNN (by omega) h, if_neg hlow]; rfl

/-- A ROM read that the overlay does not serve is a read of the visible bank. -/
theorem State.peek_rom {a : Word} (ho : s.overlayByte a = none) (h : a.toNat ≤ 0x7FFF) :
    s.peek a = s.romByte (if a.toNat ≤ 0x3FFF then s.rom00Bank else s.romNNBank) a := by
  rw [s.peek_of_overlayByte_none ho, s.regionByte_rom h]

theorem State.romByte_of_lt {bank : Nat} {a : Word} (h : s.romOffset bank a < s.cart.rom.size) :
    s.romByte bank a = some (s.cart.rom.cells.read (s.romOffset bank a)) := if_pos h

theorem State.romByte_of_le {bank : Nat} {a : Word} (h : s.cart.rom.size ≤ s.romOffset bank a) :
    s.romByte bank a = none := if_neg (by omega)

/-! ## From 0x8000 on -/

/-- Above the ROM windows a read returns the byte of the region and changes nothing. -/
theorem State.busRead_of_region {a : Word} {r : Region} {v : Byte} (ha : 0x8000 ≤ a.toNat) (hr : regionOf a = r)
    (hv : s.regionByte r a = some v) : s.busRead a = .ok v s := by
  have ho : s.overlayByte a = none := s.overlayByte_eq_none (by omega)
  exact s.busRead_of_peek_pure (by omega) (by rw [s.peek_of_overlayByte_none ho, hr, hv])

/-- An echo address reads as the address 0x2000 below it, whose region it has and which is work RAM (R82). -/
theorem State.busRead_echo {a : Word} (h : 0xE000 ≤ a.toNat) (h' : a.toNat ≤ 0xFDFF) :
    s.busRead a = s.busRead (a - 0x2000#16) := by
  have hsub : (a - 0x2000#16).toNat = a.toNat - 0x2000 := by
    simp only [BitVec.toNat_sub, BitVec.toNat_ofNat]; omega
  have hecho := regionOf_echo h h'
  by_cases hlow : (a - 0x2000#16).toNat ≤ 0xCFFF
  · have hr := regionOf_wram0 (a := a - 0x2000#16) (by omega) hlow
    rw [s.busRead_of_region (by omega) (hecho.trans hr) rfl, s.busRead_of_region (by omega) hr rfl]
  · have hr := regionOf_wramN (a := a - 0x2000#16) (by omega) (by omega)
    rw [s.busRead_of_region (by omega) (hecho.trans hr) rfl, s.busRead_of_region (by omega) hr rfl]

/-- `Unusable(a)` is the nibble `a[7:4]` twice (R84). -/
theorem unusableByte_eq (a : Word) : unusableByte a = a.extractLsb' 4 4 ++ a.extractLsb' 4 4 := by
  apply BitVec.eq_of_toNat_eq
  rw [BitVec.toNat_append, ← Nat.shiftLeft_add_eq_or_of_lt (BitVec.isLt _)]
  simp only [unusableByte, BitVec.toNat_ofNat, BitVec.extractLsb'_toNat, Nat.shiftRight_eq_div_pow, Nat.shiftLeft_eq,
    Nat.reducePow]
  omega

/-- The top three bits of a read of `IE` are set (R105). -/
theorem ieByte_eq (ie : BitVec 5) : ie.setWidth 8 ||| 0xE0#8 = 0b111#3 ++ ie := by
  revert ie; decide

/-! ## The visible banks (R78, R81) -/

theorem State.vbank_eq : s.vbank = if s.colorMode = true then ((s.io 0x4F).getLsbD 0).toNat else 0 := by
  have hbit : ((s.io 0x4F).getLsbD 0).toNat = (s.io 0x4F).toNat % 2 := by
    rw [BitVec.getLsbD, Nat.toNat_testBit, Nat.pow_zero, Nat.div_one]
  rw [State.vbank, hbit]

theorem State.wbank_of_not_colorMode (h : s.colorMode = false) : s.wbank = 1 := by
  simp [State.wbank, h]

theorem State.wbank_of_colorMode (h : s.colorMode = true) :
    s.wbank = if (s.io 0x70).extractLsb' 0 3 = 0#3 then 1 else ((s.io 0x70).extractLsb' 0 3).toNat := by
  have hfield : ((s.io 0x70).extractLsb' 0 3).toNat = (s.io 0x70).toNat % 8 := by
    simp [BitVec.extractLsb'_toNat]
  have hzero : (s.io 0x70).extractLsb' 0 3 = 0#3 ↔ (s.io 0x70).toNat % 8 = 0 := by
    rw [← BitVec.toNat_inj, hfield]; rfl
  simp only [State.wbank, h, if_true, hzero, hfield]

end Sys2Proof.Machine

open Sys2Proof Sys2Proof.Machine

/-- Settles O42: the two overlay clauses, the ROM windows through the visible bank, then one region after another, and last
what selects the banks. -/
theorem busReadMap : Obligations.BusReadMap := by
  unfold Obligations.BusReadMap
  intro s a
  dsimp only
  refine ⟨?overlay, ?rom, ?vram, ?xram, ?wram0, ?wramN, fun h h' => s.busRead_echo h h', ?oam, ?unusable, ?io, ?hram, ?ie,
    ?colour, s.vbank_eq, s.wbank_of_not_colorMode, s.wbank_of_colorMode⟩
  case overlay =>
    intro img hboot hact hrange hsize
    have ho := s.overlayByte_of_covered hboot hact hrange hsize
    exact s.busRead_of_peek_pure (by omega) (s.peek_of_overlayByte ho)
  case rom =>
    intro hnot hrom
    have hp := s.peek_rom (s.overlayByte_of_not_covered hnot) hrom
    rw [← s.afterRead_toNat]
    constructor
    · intro hlt
      exact s.busRead_of_peek (hp.trans (s.romByte_of_lt hlt))
    · intro hle
      exact s.busRead_of_peek_none (hp.trans (s.romByte_of_le hle))
  case vram => exact fun h h' => s.busRead_of_region h (regionOf_vram h h') rfl
  case xram =>
    intro h h'
    rw [s.busRead_of_region (by omega) (regionOf_xram h h') rfl]
    cases s.xramCell (a.toNat - 0xA000) <;> rfl
  case wram0 => exact fun h h' => s.busRead_of_region (by omega) (regionOf_wram0 h h') rfl
  case wramN => exact fun h h' => s.busRead_of_region (by omega) (regionOf_wramN h h') rfl
  case oam => exact fun h h' => s.busRead_of_region (by omega) (regionOf_oam h h') rfl
  case unusable =>
    intro h h'
    rw [← unusableByte_eq]
    exact s.busRead_of_region (by omega) (regionOf_unusable h h') rfl
  case io => exact fun h h' => s.busRead_of_region (by omega) (regionOf_io h h') rfl
  case hram => exact fun h h' => s.busRead_of_region (by omega) (regionOf_hram h h') rfl
  case ie =>
    intro h
    rw [← ieByte_eq]
    exact s.busRead_of_region (by omega) (regionOf_ie h) rfl
  case colour => rfl

end

section
/-! SUPPORT. State as a whole (10_state.md): what a step can do and what it keeps, what an instruction leaves alone, the
register pairs and the flag byte, and the states that construction and the host's operations leave; then the settled
obligations of that part of the spec. -/
namespace Sys2Proof.Machine

variable {s t : State}

/-! ## What a step keeps (R29, R405, R406) -/

/-- Everything a step that answers a next state can do (50_clock_scheduler.md R403): nothing where the machine is stopped,
the reduction past the frame budget, else a CPU tick and then a PPU tick. -/
theorem step_next_cases (h : step s = .next t) :
    t = s ∨ t = s.frameBoundary ∨
      ∃ u, s.fault = none ∧ s.run ≠ .stopped ∧ s.clkTotal ≤ frameCycles ∧ s.cpuTick = .next u ∧ t = u.ppuTick := by
  cases hfault : s.fault with
  | some f => simp [step, hfault] at h
  | none =>
    by_cases hrun : s.run = .stopped
    · simp only [step, hfault, if_pos hrun, Host.Outcome.next.injEq] at h
      exact .inl h.symm
    by_cases hframe : s.clkTotal ≤ frameCycles
    · obtain ⟨u, hu, hstep⟩ := step_ticks hfault hrun hframe
      rw [hstep, Host.Outcome.next.injEq] at h
      exact .inr (.inr ⟨u, rfl, hrun, hframe, hu, h.symm⟩)
    · simp only [step, hfault, if_neg hrun, if_pos (Nat.lt_of_not_le hframe), Host.Outcome.next.injEq] at h
      exact .inr (.inl h.symm)

/-- A step keeps the images, the variant, the parameters, good arrays, legal bank registers and the joypad nibble, and maps
no overlay. -/
theorem step_keeps (h : step s = .next t) : s.Keeps t := by
  obtain rfl | rfl | ⟨u, hfault, hrun, -, hu, rfl⟩ := step_next_cases h
  · exact .of_eq rfl rfl rfl id rfl rfl
  · exact .of_eq rfl rfl rfl id rfl rfl
  · exact (State.cpuTick_keeps hfault hrun hu).1.trans u.ppuTick_keeps

theorem State.ppuTick_clkTotal (s : State) : s.ppuTick.clkTotal = s.clkTotal := by rw [s.ppuTick_eq]

/-- A step leaves both counters within a frame and one tick where it finds them there (R405, R406): a tick starts within the
frame and adds at most 48, and `clk.mode` moves only up to `clk.total`. -/
theorem step_counters_bounded (h : step s = .next t) (htotal : s.clkTotal ≤ frameCycles + maxTickCycles)
    (hmode : s.clkMode ≤ frameCycles + maxTickCycles) :
    t.clkTotal ≤ frameCycles + maxTickCycles ∧ t.clkMode ≤ frameCycles + maxTickCycles := by
  obtain rfl | rfl | ⟨u, hfault, hrun, hframe, hu, rfl⟩ := step_next_cases h
  · exact ⟨htotal, hmode⟩
  · have reduced (n : Nat) : n % frameCycles ≤ frameCycles + maxTickCycles :=
      (Nat.mod_lt n (by decide)).le.trans (Nat.le_add_right _ _)
    exact ⟨reduced _, reduced _⟩
  · obtain ⟨-, hmode', -, htotal', -⟩ := State.cpuTick_keeps hfault hrun hu
    have hmove := u.ppuTick_clkMode
    rw [u.ppuTick_clkTotal]
    have htick : maxTickCycles = 48 := rfl
    omega

/-- What keeps the configuration, the arrays and the bank registers keeps the invariant, if the counters stay bounded. -/
theorem State.Keeps.inv (h : s.Keeps t) (hs : s.Inv) (htotal : t.clkTotal ≤ frameCycles + maxTickCycles)
    (hmode : t.clkMode ≤ frameCycles + maxTickCycles) : t.Inv where
  arrays := by rw [h.cart]; exact h.good hs.arrays
  rom := by rw [h.cart]; exact hs.rom
  boot := by rw [h.boot]; exact hs.boot
  bank := by rw [h.cart]; exact h.legal hs.bank
  total := htotal
  mode := hmode

theorem State.Keeps.colorMode (h : s.Keeps t) : t.colorMode = s.colorMode := by
  simp only [State.colorMode, h.boot, h.cfg]

/-! ## What an instruction leaves alone (R23, R25-R27, R430) -/

section
variable {i : Instr}

/-- The next state that an instruction answers is one it can leave. -/
theorem execEffect_of_next (h : exec i s = .next t) : ExecEffect i s t := by
  obtain ⟨t', ht', heffect⟩ := exec_effect i s
  obtain rfl : t' = t := Host.Outcome.next.inj (ht'.symm.trans h)
  exact heffect

theorem ExecEffect.flags (h : ExecEffect i s t) (hi : i.writesFlags = false) : t.flags = s.flags := by
  cases h with
  | raised f b hb => rfl
  | done ws b n _ hws hseq hb hn hflags hime hei hrun ht => exact hflags hi

/-- The PPU's mode and picture are no instruction's. -/
theorem ExecEffect.ppu (h : ExecEffect i s t) : t.ppuMode = s.ppuMode ∧ t.mem.fb = s.mem.fb := by
  cases h with
  | raised f b hb => exact ⟨rfl, rfl⟩
  | done ws b n _ hws hseq hb hn hflags hime hei hrun ht =>
    obtain ⟨-, -, -, -, -, -, hmode, hfb, -⟩ := State.writes_frame ws { s with bootActive := b }
    rw [ht]
    exact ⟨hmode, hfb⟩

/-- An instruction that raises takes no time (60_exceptions.md R501). -/
theorem ExecEffect.clkTotal_of_raised (h : ExecEffect i s t) (hs : s.fault = none) (hraised : t.fault ≠ none) :
    t.clkTotal = s.clkTotal := by
  cases h with
  | raised f b hb => rfl
  | done ws b n _ hws hseq hb hn hflags hime hei hrun ht =>
    obtain ⟨-, hfault, -⟩ := State.writes_frame ws { s with bootActive := b }
    rw [ht] at hraised
    exact absurd (hfault.trans hs) hraised

/-- Only the five control instructions write `IME`, the `EI` delay or the run state. -/
theorem ExecEffect.control (h : ExecEffect i s t) :
    (i ≠ .di → i ≠ .reti → t.ime = s.ime) ∧
    (i ≠ .di → i ≠ .reti → i ≠ .ei → t.eiPending = s.eiPending) ∧
    (i ≠ .halt → (∀ x, i ≠ .stop x) → t.run = s.run) := by
  cases h with
  | raised f b hb => exact ⟨fun _ _ => rfl, fun _ _ _ => rfl, fun _ _ => rfl⟩
  | done ws b n _ hws hseq hb hn hflags hime hei hrun ht => exact ⟨hime, hei, hrun⟩

end

/-! ## Register pairs and the flag byte (R21, R24) -/

theorem Flags.pack_toNat (f : Flags) :
    f.pack.toNat = f.z.toNat * 0x80 + f.n.toNat * 0x40 + f.h.toNat * 0x20 + f.c.toNat * 0x10 := by
  obtain ⟨z, n, h, c⟩ := f
  cases z <;> cases n <;> cases h <;> cases c <;> rfl

@[simp] theorem Flags.unpack_pack (f : Flags) : Flags.unpack f.pack = f := by
  obtain ⟨z, n, h, c⟩ := f
  cases z <;> cases n <;> cases h <;> cases c <;> rfl

/-- A byte written to the flag byte loses its low nibble. -/
@[simp] theorem Flags.pack_unpack (v : Byte) : (Flags.unpack v).pack = v &&& 0xF0#8 := by
  revert v
  decide

/-- The low nibble of the flag byte is zero: it is a byte that went through the flags. -/
theorem Flags.pack_low (f : Flags) : f.pack &&& 0x0F#8 = 0#8 := by
  rw [← f.unpack_pack, Flags.pack_unpack, BitVec.and_assoc]
  exact BitVec.and_zero

/-- The low byte's flags by the word's bits. -/
theorem Flags.unpack_loByte (v : Word) :
    Flags.unpack (loByte v) = { z := v.getLsbD 7, n := v.getLsbD 6, h := v.getLsbD 5, c := v.getLsbD 4 } := by
  simp [Flags.unpack, loByte]

theorem State.af_setAF (s : State) (v : Word) : (s.setAF v).af = v &&& 0xFFF0#16 := by
  rw [State.af, State.setAF_regs, State.setAF_flags, Flags.pack_unpack, wordOf_hi_lo_and]

/-! ## Construction and start (R60, R601, R604) -/

theorem Memory.good_nil (size : Nat) : Memory.good size [] = true := rfl

/-- The I/O block at construction is within its size where `IO_INIT` is. -/
theorem Arrays.initialIo_good {cfg : Config} (h : Memory.good 0x80 cfg.ioInit = true) :
    Memory.good 0x80 (Arrays.initialIo cfg) = true := Memory.good_write h (by omega) _

/-- A console constructed with an I/O block that fits meets the invariant. -/
theorem State.construct_inv {cfg : Config} (h : Memory.good 0x80 cfg.ioInit = true) : (State.construct cfg).Inv where
  arrays := ⟨Memory.good_nil _, Memory.good_nil _, Memory.good_nil _, Arrays.initialIo_good h, Memory.good_nil _,
    Memory.good_nil _, Memory.good_nil _, Memory.good_nil _⟩
  rom := Memory.good_nil _
  boot := nofun
  bank := decide_eq_true (p := BankRegs.initial = BankRegs.initial) rfl
  total := Nat.zero_le _
  mode := Nat.zero_le _

/-- With no boot ROM, `start()` sets the registers of its column. -/
theorem State.start_of_no_boot (h : s.boot = none) : s.start = { s with
    regs := ⟨0x01#8, 0x00#8, 0x13#8, 0x00#8, 0xD8#8, 0x01#8, 0x4D#8⟩
    flags := ⟨true, false, true, true⟩
    sp := 0xFFFE#16
    pc := 0x0100#16 } := by
  rw [State.start, h]

/-- With a boot ROM, `start()` changes nothing. -/
theorem State.start_of_boot (h : s.boot ≠ none) : s.start = s := by
  obtain ⟨img, himg⟩ := Option.ne_none_iff_exists'.1 h
  rw [State.start, himg]

/-- `start()` writes registers and flags alone, so it keeps the invariant. -/
theorem State.start_inv (h : s.Inv) : s.start.Inv := by
  by_cases hboot : s.boot = none
  · rw [State.start_of_no_boot hboot]
    exact ⟨h.arrays, h.rom, h.boot, h.bank, h.total, h.mode⟩
  · rwa [State.start_of_boot hboot]

theorem State.reset_eq : State.reset = (State.construct Config.default).start := rfl

/-- At construction every cell outside the I/O block is zero. -/
theorem State.construct_cell (cfg : Config) {n : ArrayName} (hn : n ≠ .io) (k : Nat) :
    (State.construct cfg).cell n k = 0x00#8 := by
  cases n with
  | io => exact absurd rfl hn
  | _ => rfl

/-- At construction every I/O byte but `P1` is that of `IO_INIT`. -/
theorem State.construct_io (cfg : Config) {k : Nat} (hk : k ≠ 0x00) :
    (State.construct cfg).io k = Memory.read cfg.ioInit k := Memory.read_write_ne _ _ hk

/-- At construction `P1` has the joypad nibble below the high nibble of `IO_INIT`. -/
theorem State.construct_p1 {cfg : Config} (h : Memory.wf cfg.ioInit = true) :
    (State.construct cfg).io 0x00 = (Memory.read cfg.ioInit 0x00 &&& 0xF0#8) ||| cfg.joypadLow.setWidth 8 :=
  Memory.read_write_self h _ _

end Sys2Proof.Machine

open Sys2Proof Sys2Proof.Machine

/-- Settles O54: a step keeps arrays, images and bank registers, and leaves both counters bounded. -/
theorem stepKeepsTheInvariant : Obligations.StepKeepsTheInvariant := by
  unfold Obligations.StepKeepsTheInvariant
  intro s t hs h
  obtain ⟨htotal, hmode⟩ := step_counters_bounded h hs.total hs.mode
  exact (step_keeps h).inv hs htotal hmode

/-- Settles O40, from what an instruction can do. -/
theorem otherInstructionsLeaveTheFlags : Obligations.OtherInstructionsLeaveTheFlags := by
  unfold Obligations.OtherInstructionsLeaveTheFlags
  intro i s t hi h
  exact (execEffect_of_next h).flags hi

/-- Settles O41, from what an instruction can do. -/
theorem instructionsLeaveTheUnitsAlone : Obligations.InstructionsLeaveTheUnitsAlone := by
  unfold Obligations.InstructionsLeaveTheUnitsAlone
  intro i s
  obtain ⟨t, ht, heffect⟩ := exec_effect i s
  have hkeeps := heffect.keeps
  obtain ⟨hmode, -, hle, hge⟩ := heffect.clocks
  obtain ⟨hppu, hfb⟩ := heffect.ppu
  exact ⟨t, ht, hkeeps.cart, hkeeps.boot, hkeeps.cfg, hmode, hppu, hfb, hkeeps.overlay, hge, hle,
    heffect.clkTotal_of_raised, heffect.control⟩

/-- Settles O52, from what a step keeps; the invariant gives the canonical I/O block that a write to `P1` is read back from. -/
theorem noStepChangesConfigurationOrJoypad : Obligations.NoStepChangesConfigurationOrJoypad := by
  unfold Obligations.NoStepChangesConfigurationOrJoypad
  intro s t hs h
  have hkeeps := step_keeps h
  exact ⟨hkeeps.cart, hkeeps.boot, hkeeps.cfg, hkeeps.colorMode, hkeeps.overlay, hkeeps.joypad hs.arrays⟩

/-- Settles O5: a pair is the word of its two halves, and the flag byte is its four bits. -/
theorem pairsAndFlagByte : Obligations.PairsAndFlagByte := by
  unfold Obligations.PairsAndFlagByte
  refine ⟨fun s v => ?pairs, Flags.pack_toNat, fun f => ⟨f.pack_low, f.unpack_pack⟩,
    fun v => ⟨rfl, rfl, rfl, rfl, Flags.pack_unpack v⟩, fun cfg => ?start⟩
  case pairs =>
    have hAF : s.setAF v = { s with regs := { s.regs with a := hiByte v }, flags := Flags.unpack (loByte v) } := rfl
    rw [Flags.unpack_loByte] at hAF
    exact ⟨wordOf_toNat _ _, wordOf_toNat _ _, wordOf_toNat _ _, wordOf_toNat _ _, ⟨rfl, wordOf_hi_lo v⟩,
      ⟨rfl, wordOf_hi_lo v⟩, ⟨rfl, wordOf_hi_lo v⟩, ⟨hAF, s.af_setAF v⟩, hiByte_toNat v, loByte_toNat v⟩
  case start =>
    rw [State.start_of_no_boot rfl]
    show Flags.pack ⟨true, false, true, true⟩ = 0xB0#8
    decide

/-- Settles O53: construction meets the invariant and `start()` keeps it. -/
theorem resetMeetsTheInvariant : Obligations.ResetMeetsTheInvariant := by
  unfold Obligations.ResetMeetsTheInvariant
  refine ⟨State.reset_eq, ?_⟩
  rw [State.reset_eq]
  exact State.start_inv (State.construct_inv (Memory.good_nil _))

/-- Settles O59, column by column of R60. -/
theorem resetValues : Obligations.ResetValues := by
  unfold Obligations.ResetValues
  refine ⟨?construct, ?bootRom, fun s => State.start_of_boot, fun s => State.start_of_no_boot, fun s => rfl⟩
  case construct =>
    intro cfg hio
    exact ⟨rfl, rfl, rfl, rfl, rfl, rfl, rfl, rfl, rfl, rfl, rfl, rfl, rfl, rfl, rfl, rfl, rfl, rfl, rfl,
      fun n k hn => State.construct_cell cfg hn k, fun k hk => State.construct_io cfg hk, State.construct_p1 hio⟩
  case bootRom => exact fun s bytes => ⟨Image.ofBytes bytes, rfl, Image.read_ofBytes bytes, rfl⟩

end

section
/-! SUPPORT. The bus write (20_memory.md R72): its frame, plain storage written and read back, the I/O registers with a rule
of their own, and the bank controllers' register windows; then the settled obligations of those rules. -/
namespace Sys2Proof.Machine

variable {s : State}

/-! ## The frame of a bus write (R72, R75) -/

/-- A bus write touches memory, `IE`, the bank registers and the overlay alone, whatever the region. -/
theorem State.busWrite_frame (s : State) (a : Word) (v : Byte) :
    s.busWrite a v = { s with
      mem := (s.busWrite a v).mem
      ie := (s.busWrite a v).ie
      bank := (s.busWrite a v).bank
      bootActive := (s.busWrite a v).bootActive } := by
  unfold State.busWrite
  cases regionOf a with
  | rom00 | romNN =>
    dsimp only
    unfold State.bankWrite
    cases s.cart.mbc <;> rfl
  | xram off =>
    dsimp only
    cases s.xramCell off <;> rfl
  | io off =>
    dsimp only
    unfold State.ioWrite
    (repeat' split) <;> rfl
  | _ => rfl

/-- A write to an address with no storage cell behind it leaves memory. -/
theorem State.busWrite_mem_of_no_target {a : Word} (v : Byte) (h : s.target a = none) : (s.busWrite a v).mem = s.mem := by
  rw [s.busWrite_mem, h]

/-! ## Plain storage (R82, R135, R138) -/

/-- No cell is behind an address below 0x8000. -/
theorem State.target_rom {a : Word} (h : a.toNat ≤ 0x7FFF) : s.target a = none := by
  by_cases hlow : a.toNat ≤ 0x3FFF
  · rw [State.target, regionOf_rom00 hlow]
  · rw [State.target, regionOf_romNN (by omega) h]

/-- A byte written to plain storage is read back at every address with its cell. -/
theorem State.peek_busWrite_self {a b : Word} (v : Byte) (hg : s.mem.Good s.cart.ramBanks)
    (hp : s.storesPlainly a = true) (hb : s.target b = s.target a) : (s.busWrite a v).peek b = some v := by
  obtain ⟨n, k, ht, hs, -⟩ := s.storesPlainly_cases hp
  rw [s.busWrite_plain v hp ht]
  exact State.peek_store_self hg v hs (hb.trans ht)

/-- A byte written to plain storage changes what no address with another cell reads. -/
theorem State.peek_busWrite_ne {a b : Word} (v : Byte) (hp : s.storesPlainly a = true)
    (hb : s.target b ≠ s.target a) : (s.busWrite a v).peek b = s.peek b := by
  obtain ⟨n, k, ht, hs, -⟩ := s.storesPlainly_cases hp
  rw [s.busWrite_plain v hp ht]
  exact State.peek_store_ne v hs (fun h => hb (h.trans ht.symm))

/-! ## I/O registers and `IE` (R90-R98, R105) -/

/-- A read of an I/O address is `IoRead`. -/
theorem State.peek_io {a : Word} {off : Nat} (h : regionOf a = .io off) : s.peek a = some (s.ioRead off) := by
  have hr := regionOf_holds_of_eq a _ h
  have ho : s.overlayByte a = none := s.overlayByte_eq_none (by simp only [Region.Holds] at hr; omega)
  rw [s.peek_of_overlayByte_none ho, h]
  rfl

/-- A write to an I/O address is `IoWrite`. -/
theorem State.busWrite_io {a : Word} {off : Nat} (v : Byte) (h : regionOf a = .io off) :
    s.busWrite a v = s.ioWrite off v := by
  rw [State.busWrite, h]

/-- An I/O offset outside the wave RAM with no read rule reads as the stored byte. -/
theorem State.ioRead_plain {off : Nat} (hF : off ≠ 0x0F) (hw : ¬ (0x30 ≤ off ∧ off ≤ 0x3F))
    (hb : ¬ (off = 0x4F ∨ off = 0x70)) : s.ioRead off = s.io off := by
  rw [State.ioRead, if_neg hF, if_neg hw, if_neg hb]

/-- `IF` reads with its upper three bits set (R93). -/
theorem State.ioRead_if : s.ioRead 0x0F = s.io 0x0F ||| 0xE0#8 := rfl

/-- `VBK` and `SVBK` read as stored in colour mode (R96, R97). -/
theorem State.ioRead_bank_colour {off : Nat} (hb : off = 0x4F ∨ off = 0x70) (hc : s.colorMode = true) :
    s.ioRead off = s.io off := by
  rw [State.ioRead, if_neg (by omega), if_neg (by omega), if_pos hb, if_pos hc]

/-- `VBK` and `SVBK` read as 0xFF outside colour mode (R96, R97). -/
theorem State.ioRead_bank_grey {off : Nat} (hb : off = 0x4F ∨ off = 0x70) (hc : s.colorMode = false) :
    s.ioRead off = 0xFF#8 := by
  rw [State.ioRead, if_neg (by omega), if_neg (by omega), if_pos hb, if_neg (by simp [hc])]

/-- `VBK` and `SVBK` are stored in colour mode (R96, R97). -/
theorem State.ioWrite_bank_colour {off : Nat} (v : Byte) (hb : off = 0x4F ∨ off = 0x70) (hc : s.colorMode = true) :
    s.ioWrite off v = s.store .io off v := by
  rw [State.ioWrite, if_neg (by omega), if_neg (by omega), if_neg (by omega), if_neg (by omega), if_neg (by omega),
    if_pos hb, if_pos hc]

/-- A write to `VBK` or `SVBK` outside colour mode does nothing (R96, R97). -/
theorem State.ioWrite_bank_grey {off : Nat} (v : Byte) (hb : off = 0x4F ∨ off = 0x70) (hc : s.colorMode = false) :
    s.ioWrite off v = s := by
  rw [State.ioWrite, if_neg (by omega), if_neg (by omega), if_neg (by omega), if_neg (by omega), if_neg (by omega),
    if_pos hb, if_neg (by simp [hc])]

/-- A stored I/O byte is what the block holds. -/
theorem State.io_store_self {r : Nat} (hg : s.mem.Good r) (k : Nat) (v : Byte) : (s.store .io k v).io k = v :=
  s.cell_store_self hg .io k v

/-- The I/O registers of 20_memory.md section 3 whose write has a rule and whose read has none. -/
def storedAsRead : List Nat := [0x00, 0x04, 0x07, 0x50]

/-- Such a register reads as its stored byte. -/
theorem State.peek_io_plain {a : Word} {off : Nat} (ha : regionOf a = .io off) (ho : off ∈ storedAsRead) :
    s.peek a = some (s.io off) := by
  simp only [storedAsRead, List.mem_cons, List.not_mem_nil, or_false] at ho
  rw [State.peek_io ha, State.ioRead_plain (by omega) (by omega) (by omega)]

/-- Such a register reads as stored, and after a write as the byte `x` that the write's rule stores. -/
theorem State.storedRegister {r : Nat} (hg : s.mem.Good r) {a : Word} {off : Nat} {v x : Byte} (ha : regionOf a = .io off)
    (ho : off ∈ storedAsRead) (hw : s.ioWrite off v = s.store .io off x) :
    s.peek a = some (s.io off) ∧ (s.busWrite a v).peek a = some x := by
  rw [State.busWrite_io v ha, hw, State.peek_io_plain ha ho, State.peek_io_plain ha ho, State.io_store_self hg]
  exact ⟨rfl, rfl⟩

/-- The five bits that `IE` keeps of a byte (R105). -/
theorem ieBits_eq (v : Byte) : (v.setWidth 5).setWidth 8 = v &&& 0x1F#8 := by
  revert v
  decide

/-- The byte that `IE` reads back after a write (R105). -/
theorem ieByte_setWidth (v : Byte) : (v.setWidth 5).setWidth 8 ||| 0xE0#8 = v ||| 0xE0#8 := by
  revert v
  decide

/-- `VBK` and `SVBK` in colour mode: plain bytes (R96, R97). -/
theorem State.bankSelect_colour {r : Nat} (hg : s.mem.Good r) {a : Word} {off : Nat} (v : Byte)
    (ha : regionOf a = .io off) (hb : off = 0x4F ∨ off = 0x70) (hc : s.colorMode = true) :
    s.peek a = some (s.io off) ∧ (s.busWrite a v).peek a = some v := by
  have hc' : (s.store .io off v).colorMode = true := hc
  constructor
  · rw [State.peek_io ha, State.ioRead_bank_colour hb hc]
  · rw [State.busWrite_io v ha, State.ioWrite_bank_colour v hb hc, State.peek_io ha, State.ioRead_bank_colour hb hc',
      State.io_store_self hg]

/-- `VBK` and `SVBK` outside colour mode: fixed 0xFF, writes ignored (R96, R97). -/
theorem State.bankSelect_grey {a : Word} {off : Nat} (v : Byte) (ha : regionOf a = .io off) (hb : off = 0x4F ∨ off = 0x70)
    (hc : s.colorMode = false) : s.peek a = some 0xFF#8 ∧ s.busWrite a v = s := by
  constructor
  · rw [State.peek_io ha, State.ioRead_bank_grey hb hc]
  · rw [State.busWrite_io v ha, State.ioWrite_bank_grey v hb hc]

/-- A read of `IE` (R105). -/
theorem State.peek_ie : s.peek 0xFFFF#16 = some (s.ie.setWidth 8 ||| 0xE0#8) := by
  rw [s.peek_of_overlayByte_none (s.overlayByte_eq_none (by decide)), regionOf_ie rfl]
  rfl

/-- A write to `IE` (R105). -/
theorem State.busWrite_ieAddr (v : Byte) : s.busWrite 0xFFFF#16 v = { s with ie := v.setWidth 5 } := by
  rw [State.busWrite, regionOf_ie rfl]

/-! ## The bank controllers (R77, R108-R114) -/

/-- A write below 0x8000 is a bank-controller register write (R77). -/
theorem State.busWrite_rom {a : Word} (v : Byte) (h : a.toNat ≤ 0x7FFF) : s.busWrite a v = s.bankWrite a v := by
  by_cases hlow : a.toNat ≤ 0x3FFF
  · rw [State.busWrite, regionOf_rom00 hlow]
  · rw [State.busWrite, regionOf_romNN (by omega) h]

/-- A bank-controller register write changes the bank registers alone. -/
theorem State.bankWrite_eq (s : State) (a : Word) (v : Byte) :
    s.bankWrite a v = { s with bank := (s.bankWrite a v).bank } := by
  unfold State.bankWrite
  cases s.cart.mbc <;> rfl

/-- The register file that a variant's write leaves, by variant; `n` the bus address (R108, R111-R114). -/
def BankRegs.written (b : BankRegs) (m : Mbc) (n : Nat) (v : Byte) : BankRegs :=
  match m with
  | .romOnly => b
  | .mbc1 => b.writeMbc1 n v
  | .mbc3 => b.writeMbc3 n v
  | .mbc5 => b.writeMbc5 n v
  | .mbc30 => b.writeMbc30 n v

theorem State.busWrite_rom_bank {a : Word} (v : Byte) (h : a.toNat ≤ 0x7FFF) :
    (s.busWrite a v).bank = s.bank.written s.cart.mbc a.toNat v := by
  rw [State.busWrite_rom v h]
  unfold State.bankWrite BankRegs.written
  cases s.cart.mbc <;> rfl

section
variable (b : BankRegs) (v : Byte) {m : Mbc} {n : Nat}

/-- The RAM gate compares the low nibble with 0xA (R109). -/
theorem BankRegs.gate_eq : b.gate v = { b with ramEnable := decide (v &&& 0x0F#8 = 0x0A#8) } := by
  have hnibble : ∀ v : Byte, decide (v.toNat % 16 = 0x0A) = decide (v &&& 0x0F#8 = 0x0A#8) := by decide
  rw [BankRegs.gate, hnibble]

/-- The low bits of the byte are the ROM bank, and zero selects bank 1 (R111-R113). -/
theorem BankRegs.setRomBankNonzero_eq (mask : Byte) {k : Nat} (hk : (v &&& mask).toNat = k) :
    b.setRomBankNonzero k = { b with romBank := if v &&& mask = 0#8 then 1#9 else (v &&& mask).setWidth 9 } := by
  have hzero : k = 0 ↔ v &&& mask = 0#8 := by rw [← hk, ← BitVec.toNat_inj]; rfl
  unfold BankRegs.setRomBankNonzero
  simp only [hzero]
  split
  · rfl
  · rw [← hk, BitVec.ofNat_toNat]

/-- The masks of the ROM bank registers as remainders (R111-R113). -/
theorem and_1F_toNat : (v &&& 0x1F#8).toNat = v.toNat % 0x20 := by revert v; decide
theorem and_7F_toNat : (v &&& 0x7F#8).toNat = v.toNat % 0x80 := by revert v; decide
theorem and_FF_toNat : (v &&& 0xFF#8).toNat = v.toNat := by revert v; decide

/-- The two low bits as a RAM bank (R111). -/
theorem ramBank_and_03 : BitVec.ofNat 4 (v.toNat % 4) = (v &&& 0x03#8).setWidth 4 := by revert v; decide
/-- The low nibble as a RAM bank (R112-R114). -/
theorem ramBank_and_0F : BitVec.ofNat 4 (v.toNat % 16) = (v &&& 0x0F#8).setWidth 4 := by revert v; decide

/-- The low byte of `Mbc5`'s ROM bank replaced (R114). -/
theorem romBank_low (r : BitVec 9) : (r &&& 0x100#9) ||| v.setWidth 9 = r.extractLsb' 8 1 ++ v := by
  refine BitVec.eq_of_getLsbD_eq (w := 1 + 8) fun i hi => ?_
  rw [BitVec.getLsbD_append]
  interval_cases i <;> simp

/-- The top bit of `Mbc5`'s ROM bank replaced (R114). -/
theorem romBank_high (r : BitVec 9) :
    (r &&& 0x0FF#9) ||| (if v.getLsbD 0 then 0x100#9 else 0#9) = BitVec.ofBool (v.getLsbD 0) ++ r.extractLsb' 0 8 := by
  refine BitVec.eq_of_getLsbD_eq (w := 1 + 8) fun i hi => ?_
  rw [BitVec.getLsbD_append]
  cases v.getLsbD 0 <;> interval_cases i <;> simp

/-- 0x0000-0x1FFF: the RAM gate, in every variant that has one (R109). -/
theorem BankRegs.written_gate (hm : m ≠ .romOnly) (h : n ≤ 0x1FFF) :
    b.written m n v = { b with ramEnable := decide (v &&& 0x0F#8 = 0x0A#8) } := by
  rw [← BankRegs.gate_eq]
  cases m with
  | romOnly => exact absurd rfl hm
  | mbc1 | mbc3 | mbc5 | mbc30 => exact if_pos h

/-- 0x4000-0x5FFF: the RAM bank, four bits but for `Mbc1` (R112-R114). -/
theorem BankRegs.written_ram (hm : m ≠ .romOnly) (hm1 : m ≠ .mbc1) (h : 0x4000 ≤ n) (h' : n ≤ 0x5FFF) :
    b.written m n v = { b with ramBank := (v &&& 0x0F#8).setWidth 4 } := by
  rw [← ramBank_and_0F]
  have h1 : ¬ n ≤ 0x1FFF := by omega
  have h2 : ¬ n ≤ 0x2FFF := by omega
  have h3 : ¬ n ≤ 0x3FFF := by omega
  cases m with
  | romOnly => exact absurd rfl hm
  | mbc1 => exact absurd rfl hm1
  | mbc3 => simp only [BankRegs.written, BankRegs.writeMbc3, if_neg h1, if_neg h3, if_pos h']
  | mbc5 => simp only [BankRegs.written, BankRegs.writeMbc5, if_neg h1, if_neg h2, if_neg h3, if_pos h']
  | mbc30 => simp only [BankRegs.written, BankRegs.writeMbc30, if_neg h1, if_neg h3, if_pos h']

/-- 0x6000-0x7FFF: ignored but by `Mbc1` (R112-R114). -/
theorem BankRegs.written_top (hm1 : m ≠ .mbc1) (h : 0x6000 ≤ n) : b.written m n v = b := by
  have h1 : ¬ n ≤ 0x1FFF := by omega
  have h2 : ¬ n ≤ 0x2FFF := by omega
  have h3 : ¬ n ≤ 0x3FFF := by omega
  have h5 : ¬ n ≤ 0x5FFF := by omega
  cases m with
  | romOnly => rfl
  | mbc1 => exact absurd rfl hm1
  | mbc3 => simp only [BankRegs.written, BankRegs.writeMbc3, if_neg h1, if_neg h3, if_neg h5]
  | mbc5 => simp only [BankRegs.written, BankRegs.writeMbc5, if_neg h1, if_neg h2, if_neg h3, if_neg h5]
  | mbc30 => simp only [BankRegs.written, BankRegs.writeMbc30, if_neg h1, if_neg h3, if_neg h5]

/-- `Mbc1`, 0x2000-0x3FFF: a five-bit ROM bank (R111). -/
theorem BankRegs.writeMbc1_rom (h : 0x2000 ≤ n) (h' : n ≤ 0x3FFF) : b.writeMbc1 n v =
    { b with romBank := if v &&& 0x1F#8 = 0#8 then 1#9 else (v &&& 0x1F#8).setWidth 9 } := by
  rw [BankRegs.writeMbc1, if_neg (by omega), if_pos h', b.setRomBankNonzero_eq v _ (and_1F_toNat v)]

/-- `Mbc1`, 0x4000-0x5FFF: two bits (R111). -/
theorem BankRegs.writeMbc1_ram (h : 0x4000 ≤ n) (h' : n ≤ 0x5FFF) :
    b.writeMbc1 n v = { b with ramBank := (v &&& 0x03#8).setWidth 4 } := by
  rw [BankRegs.writeMbc1, if_neg (by omega), if_neg (by omega), if_pos h', ramBank_and_03]

/-- `Mbc1`, 0x6000-0x7FFF: the mode bit (R111). -/
theorem BankRegs.writeMbc1_mode (h : 0x6000 ≤ n) : b.writeMbc1 n v = { b with mbc1Mode := v.getLsbD 0 } := by
  rw [BankRegs.writeMbc1, if_neg (by omega), if_neg (by omega), if_neg (by omega)]

/-- `Mbc3`, 0x2000-0x3FFF: a seven-bit ROM bank (R112). -/
theorem BankRegs.writeMbc3_rom (h : 0x2000 ≤ n) (h' : n ≤ 0x3FFF) : b.writeMbc3 n v =
    { b with romBank := if v &&& 0x7F#8 = 0#8 then 1#9 else (v &&& 0x7F#8).setWidth 9 } := by
  rw [BankRegs.writeMbc3, if_neg (by omega), if_pos h', b.setRomBankNonzero_eq v _ (and_7F_toNat v)]

/-- `Mbc30`, 0x2000-0x3FFF: an eight-bit ROM bank (R113). -/
theorem BankRegs.writeMbc30_rom (h : 0x2000 ≤ n) (h' : n ≤ 0x3FFF) : b.writeMbc30 n v =
    { b with romBank := if v &&& 0xFF#8 = 0#8 then 1#9 else (v &&& 0xFF#8).setWidth 9 } := by
  rw [BankRegs.writeMbc30, if_neg (by omega), if_pos h', b.setRomBankNonzero_eq v _ (and_FF_toNat v)]

/-- `Mbc5`, 0x2000-0x2FFF: the low byte of the ROM bank (R114). -/
theorem BankRegs.writeMbc5_low (h : 0x2000 ≤ n) (h' : n ≤ 0x2FFF) :
    b.writeMbc5 n v = { b with romBank := b.romBank.extractLsb' 8 1 ++ v } := by
  rw [BankRegs.writeMbc5, if_neg (by omega), if_pos h', romBank_low]

/-- `Mbc5`, 0x3000-0x3FFF: the top bit of the ROM bank (R114). -/
theorem BankRegs.writeMbc5_high (h : 0x3000 ≤ n) (h' : n ≤ 0x3FFF) :
    b.writeMbc5 n v = { b with romBank := BitVec.ofBool (v.getLsbD 0) ++ b.romBank.extractLsb' 0 8 } := by
  rw [BankRegs.writeMbc5, if_neg (by omega), if_neg (by omega), if_pos h', romBank_high]

end

/-- Cartridge RAM is closed without banks or without the enable (R107, R109). -/
theorem State.xramCell_closed (off : Nat) (h : ¬ (s.cart.ramBanks ≠ 0 ∧ s.bank.ramEnable = true)) :
    s.xramCell off = none := by
  refine if_pos ?_
  rw [← Bool.not_eq_true]
  tauto

/-- Where cartridge RAM is open its cell is that of the selected bank (R107). -/
theorem State.xramCell_open (off : Nat) (h : s.cart.ramBanks ≠ 0 ∧ s.bank.ramEnable = true) :
    s.xramCell off = s.ramSel.map (fun b => b % s.cart.ramBanks * 0x2000 + off) := by
  refine if_neg ?_
  rw [← Bool.not_eq_true]
  tauto

/-- `RomOnly` has no external RAM, whatever its registers hold (R108). -/
theorem State.xramCell_romOnly (off : Nat) (h : s.cart.mbc = .romOnly) : s.xramCell off = none := by
  by_cases ho : s.cart.ramBanks ≠ 0 ∧ s.bank.ramEnable = true
  · rw [State.xramCell_open off ho, State.ramSel, h]; rfl
  · exact State.xramCell_closed off ho

/-- The RAM bank of a variant other than `RomOnly` and `Mbc1`: none where it is above the variant's last (R112-R114). -/
theorem State.ramSel_eq (h : s.cart.mbc = .mbc3 ∨ s.cart.mbc = .mbc30 ∨ s.cart.mbc = .mbc5) :
    s.ramSel =
      if (s.cart.mbc = .mbc3 ∧ 0x03 < s.bank.ramBank.toNat) ∨ (s.cart.mbc = .mbc30 ∧ 0x07 < s.bank.ramBank.toNat)
      then none else some s.bank.ramBank.toNat := by
  rcases h with h | h | h <;> simp only [State.ramSel, h, reduceCtorEq, true_and, false_and, or_false, false_or, if_false]
  · exact (ite_not ..).symm.trans (by simp only [Nat.not_le])
  · exact (ite_not ..).symm.trans (by simp only [Nat.not_le])

end Sys2Proof.Machine

open Sys2Proof Sys2Proof.Machine

/-- Settles O43: the write stores the byte in the one cell that both addresses reach, and no read above the ROM windows has a
side effect. -/
theorem storeThenReadReturnsTheByte : Obligations.StoreThenReadReturnsTheByte := by
  unfold Obligations.StoreThenReadReturnsTheByte
  intro s a b v hg hp hb
  have hpeek := State.peek_busWrite_self v hg hp hb
  have hrom : ¬ b.toNat ≤ 0x7FFF := by
    intro h
    obtain ⟨n, k, ht, -⟩ := s.storesPlainly_cases hp
    rw [State.target_rom h, ht] at hb
    cases hb
  exact ⟨hpeek, State.busRead_of_peek_pure _ (by omega) hpeek⟩

/-- Settles O44, from the frame of a bus write and the cell behind its address. -/
theorem busWriteFrame : Obligations.BusWriteFrame := by
  unfold Obligations.BusWriteFrame
  intro s a v
  refine ⟨?_, s.busWrite_bank v, State.busWrite_mem_of_no_target v, fun n k => s.cell_busWrite_ne,
    fun hp b => State.peek_busWrite_ne v hp⟩
  have hframe := s.busWrite_frame a v
  rwa [s.busWrite_ie, s.busWrite_bootActive] at hframe

/-- Settles O45, register by register: a read returns the byte of the canonical block, a write stores the byte of its rule. -/
theorem ioAccessRules : Obligations.IoAccessRules := by
  unfold Obligations.IoAccessRules
  intro s v hg
  refine ⟨?p1, ?div, ?tac, ?if', fun hc => ?colour, fun hc => ?grey, ?brd, State.peek_ie, State.busWrite_ieAddr v, ?ieBits,
    ?ieRead⟩
  case p1 => exact State.storedRegister hg rfl (by decide) rfl
  case div =>
    obtain ⟨hread, hread'⟩ := State.storedRegister hg (a := 0xFF04#16) (off := 0x04) (v := v) rfl (by decide) rfl
    exact ⟨hread, State.busWrite_io (off := 0x04) v rfl, hread'⟩
  case tac => exact State.storedRegister hg rfl (by decide) rfl
  case if' =>
    have ha : regionOf 0xFF0F#16 = .io 0x0F := rfl
    have hio : (s.busWrite 0xFF0F#16 v).io 0x0F = v ||| 0xE0#8 := by
      rw [State.busWrite_io v ha]
      exact State.io_store_self hg _ _
    refine ⟨State.peek_io ha, hio, ?_⟩
    rw [State.peek_io ha, State.ioRead_if, hio, BitVec.or_assoc, BitVec.or_self]
  case colour =>
    obtain ⟨hvbk, hvbk'⟩ := State.bankSelect_colour hg (a := 0xFF4F#16) v rfl (.inl rfl) hc
    obtain ⟨hsvbk, hsvbk'⟩ := State.bankSelect_colour hg (a := 0xFF70#16) v rfl (.inr rfl) hc
    exact ⟨hvbk, hvbk', hsvbk, hsvbk'⟩
  case grey =>
    obtain ⟨hvbk, hvbk'⟩ := State.bankSelect_grey (a := 0xFF4F#16) v rfl (.inl rfl) hc
    obtain ⟨hsvbk, hsvbk'⟩ := State.bankSelect_grey (a := 0xFF70#16) v rfl (.inr rfl) hc
    exact ⟨hvbk, hvbk', hsvbk, hsvbk'⟩
  case brd =>
    have ha : regionOf 0xFF50#16 = .io 0x50 := rfl
    refine ⟨State.peek_io_plain ha (by decide), ?_, State.busWrite_io v ha⟩
    rw [State.busWrite_io v ha, State.peek_io_plain ha (by decide)]
    exact congrArg some (State.io_store_self hg 0x50 v)
  case ieBits => rw [State.busWrite_ieAddr, ieBits_eq]
  case ieRead => rw [State.busWrite_ieAddr, State.peek_ie, ieByte_setWidth]

/-- Settles O46: the register windows of each variant, then the banks that its registers show. -/
theorem bankControllerRules : Obligations.BankControllerRules := by
  unfold Obligations.BankControllerRules
  intro s a v
  dsimp only
  refine ⟨fun hrom => ?windows, ?romOnly, ?mbc1, ?others, State.xramCell_closed _⟩
  case windows =>
    rw [State.busWrite_rom_bank v hrom]
    refine ⟨?_, ?_, fun hm => s.bank.written_gate v hm, fun hm hm1 => s.bank.written_ram v hm hm1,
      fun _ hm1 => s.bank.written_top v hm1, ?_, ?_, ?_, ?_⟩
    · rw [← State.busWrite_rom_bank v hrom, State.busWrite_rom v hrom]
      exact s.bankWrite_eq a v
    · intro hm
      rw [hm]
      rfl
    · intro hm
      rw [hm]
      exact ⟨s.bank.writeMbc1_rom v, s.bank.writeMbc1_ram v, s.bank.writeMbc1_mode v⟩
    · intro hm
      rw [hm]
      exact s.bank.writeMbc3_rom v
    · intro hm
      rw [hm]
      exact s.bank.writeMbc30_rom v
    · intro hm
      rw [hm]
      exact ⟨s.bank.writeMbc5_low v, s.bank.writeMbc5_high v⟩
  case romOnly =>
    intro hm
    exact ⟨by rw [State.rom00Bank, hm], by rw [State.romNNBank, hm], State.xramCell_romOnly _ hm⟩
  case mbc1 =>
    intro hm
    refine ⟨by rw [State.rom00Bank, hm], by rw [State.romNNBank, hm], fun ho => ?_⟩
    rw [State.xramCell_open _ ho, State.ramSel, hm]
    rfl
  case others =>
    intro hm
    refine ⟨by rcases hm with h | h | h <;> rw [State.rom00Bank, h],
      by rcases hm with h | h | h <;> rw [State.romNNBank, h], fun ho => ?_⟩
    rw [State.xramCell_open _ ho, State.ramSel_eq hm]
    split <;> rfl

end

section
/-! SUPPORT. What instructions do to memory: the data read that comes first (20_memory.md R115), the stores and what they
leave (R72, R134), and the stack round trip (R131); then the settled obligations of those rules. -/
namespace Sys2Proof.Machine

variable {s t : State} {i : Instr}

/-! ## The first data read (R107, R115, R502) -/

/-- The row `PREFIX CB` whose second byte names `(HL)` reads that byte first (46_cpu_control.md R375). -/
theorem selectCB_reads {op2 : Byte} (hz : fieldZ op2 = 6) : ∃ k, selectCB op2 s = (s.busRead s.hl).finish k := by
  have hx : fieldX op2 < 4 := by unfold fieldX; have := op2.isLt; omega
  unfold selectCB
  rw [hz]
  generalize fieldX op2 = x at hx
  obtain rfl | rfl | rfl | rfl : x = 0 ∨ x = 1 ∨ x = 2 ∨ x = 3 := by omega
  all_goals exact ⟨_, rfl⟩

/-- An instruction with a first data read is that read, then something with the byte. -/
theorem exec_of_readAddr {a : Word} (ha : i.readAddr s = some a) :
    ∃ k, exec i s = (s.busRead a).finish k := by
  cases i.shape with
  | ld_reg_mem dst =>
    obtain rfl : s.hl = a := by cases dst <;> exact Option.some.inj ha
    exact ⟨_, exec_ld_reg_mem s dst⟩
  | alu_mem op =>
    obtain rfl : s.hl = a := by cases op <;> exact Option.some.inj ha
    exact ⟨_, exec_alu_mem s op⟩
  | shift_mem op =>
    obtain rfl : s.hl = a := by cases op <;> exact Option.some.inj ha
    exact ⟨_, exec_shift_mem s op⟩
  | bit_mem b =>
    obtain rfl : s.hl = a := by fin_cases b <;> exact Option.some.inj ha
    exact ⟨_, exec_bit_mem s b⟩
  | res_mem b =>
    obtain rfl : s.hl = a := by fin_cases b <;> exact Option.some.inj ha
    exact ⟨_, exec_res_mem s b⟩
  | set_mem b =>
    obtain rfl : s.hl = a := by fin_cases b <;> exact Option.some.inj ha
    exact ⟨_, exec_set_mem s b⟩
  | ld_A_indBC | ld_A_indDE | ld_A_indHLinc | ld_A_indHLdec | ld_A_indC | inc_indHL | dec_indHL =>
    cases ha
    exact ⟨_, rfl⟩
  | ldh_A_ind_a8 _ | ld_A_ind_a16 _ =>
    cases ha
    exact ⟨_, rfl⟩
  | prefix_CB op2 =>
    obtain ⟨hz, ha⟩ := Option.ite_none_right_eq_some.1 ha
    obtain rfl : s.hl = a := Option.some.inj ha
    exact selectCB_reads hz
  | ld_reg dst src => cases dst <;> cases src <;> cases ha
  | ld_mem_reg r | ldImm_reg r _ | inc_reg r | dec_reg r => cases r <;> cases ha
  | alu_reg op r | shift_reg op r => cases op <;> cases r <;> cases ha
  | aluImm op _ => cases op <;> cases ha
  | bit_reg b r | res_reg b r | set_reg b r => fin_cases b <;> cases r <;> cases ha
  | ldPair rr _ | addHL rr | incPair rr | decPair rr => cases rr <;> cases ha
  | push qq | pop qq => cases qq <;> cases ha
  | jr cc _ | jp cc _ | call cc _ | retCond cc => cases cc <;> cases ha
  | rst y => fin_cases y <;> cases ha
  | unassigned p hmem => fin_cases hmem <;> cases ha
  | _ => cases ha

/-- A meaning whose first read finds no byte ends there (60_exceptions.md R502, R507). -/
theorem finish_busRead_of_peek_none {a : Word} (h : s.peek a = none) (k : Byte → State → State) :
    (s.busRead a).finish k = .next { s.afterRead a with fault := some (.addressError a.toNat) } := by
  rw [s.busRead_of_peek_none h]
  rfl

/-- From 0x8000 on every region returns a byte (R71). -/
theorem State.regionByte_isSome (a : Word) (h : 0x8000 ≤ a.toNat) : (s.regionByte (regionOf a) a).isSome = true := by
  have hr := regionOf_holds a
  cases hreg : regionOf a with
  | rom00 => rw [hreg] at hr; simp only [Region.Holds] at hr; omega
  | romNN => rw [hreg] at hr; simp only [Region.Holds] at hr; omega
  | _ => rfl

/-- The bus returns no byte exactly past the ROM image (R107, R115). -/
theorem State.peek_eq_none_iff (s : State) (a : Word) : s.peek a = none ↔
    a.toNat ≤ 0x7FFF ∧ s.overlayByte a = none ∧
      s.cart.rom.size ≤ s.romOffset (if a.toNat ≤ 0x3FFF then s.rom00Bank else s.romNNBank) a := by
  cases ho : s.overlayByte a with
  | some v => simp [s.peek_of_overlayByte ho]
  | none =>
    by_cases hrom : a.toNat ≤ 0x7FFF
    · rw [s.peek_rom ho hrom]
      simp [State.romByte, hrom]
    · have hsome := s.regionByte_isSome a (by omega)
      rw [← s.peek_of_overlayByte_none ho] at hsome
      simp [hrom, Option.isSome_iff_ne_none.1 hsome]

/-! ## Stores (R72, R134) -/

/-- What an instruction leaves, as far as the bus can see: the state after at most two stores at neighbouring addresses of
its own, none where it raises; `b` is the overlay flag after its reads. -/
theorem ExecEffect.stores (h : ExecEffect i s t) : ∃ (ws : List (Word × Byte)) (b : Bool), Neighbours ws ∧
    (∀ w ∈ ws, w.1 ∈ i.storeAddrs s) ∧
    t = { State.writes { s with bootActive := b } ws with
      regs := t.regs, flags := t.flags, sp := t.sp, pc := t.pc, clkTotal := t.clkTotal
      ime := t.ime, eiPending := t.eiPending, run := t.run, fault := t.fault } := by
  cases h with
  | raised f b hb => exact ⟨[], b, trivial, nofun, rfl⟩
  | done ws b n _ hws hseq hb hn hflags hime hei hrun ht =>
    refine ⟨ws, b, hseq, fun w hw => hws ▸ List.mem_map_of_mem hw, ?_⟩
    have hfault : t.fault = (State.writes { s with bootActive := b } ws).fault := by rw [ht]
    rw [hfault]
    exact ht

/-- Stores leave every cell that is behind none of their addresses. -/
theorem State.cell_writes_ne {ws : List (Word × Byte)} {n : ArrayName} {k : Nat} (hseq : Neighbours ws)
    (h : ∀ w ∈ ws, s.target w.1 ≠ some (n, k)) : (s.writes ws).cell n k = s.cell n k := by
  match ws, hseq with
  | [], _ => rfl
  | [w], _ => exact s.cell_busWrite_ne (h w (by simp))
  | [v, w], hnext =>
    refine ((s.busWrite v.1 v.2).cell_busWrite_ne ?_).trans (s.cell_busWrite_ne (h v (by simp)))
    rw [s.target_busWrite_next v.1 v.2 w.1 hnext]
    exact h w (by simp)

/-- Stores below 0xFFFF leave `IE` (R105). -/
theorem State.writes_ie {ws : List (Word × Byte)} (h : ∀ w ∈ ws, w.1 ≠ 0xFFFF#16) : (s.writes ws).ie = s.ie := by
  induction ws generalizing s with
  | nil => rfl
  | cons w ws ih =>
    obtain ⟨hw, hws⟩ := List.forall_mem_cons.1 h
    exact (ih hws).trans ((s.busWrite_ie w.1 w.2).trans (if_neg hw))

/-- Stores from 0x8000 on leave the bank registers (R77). -/
theorem State.writes_bank {ws : List (Word × Byte)} (h : ∀ w ∈ ws, 0x8000 ≤ w.1.toNat) : (s.writes ws).bank = s.bank := by
  induction ws generalizing s with
  | nil => rfl
  | cons w ws ih =>
    obtain ⟨hw, hws⟩ := List.forall_mem_cons.1 h
    exact (ih hws).trans (s.busWrite_bank w.2 hw)

/-- A write to plain storage moves no cell. -/
theorem State.target_busWrite_plain {a : Word} (v : Byte) (hp : s.storesPlainly a = true) (b : Word) :
    (s.busWrite a v).target b = s.target b := by
  obtain ⟨n, k, ht, hs, -⟩ := s.storesPlainly_cases hp
  rw [s.busWrite_plain v hp ht, State.target_store v hs]

/-- A write to plain storage leaves plain storage plain. -/
theorem State.storesPlainly_busWrite_plain {a : Word} (v : Byte) (hp : s.storesPlainly a = true) (b : Word) :
    (s.busWrite a v).storesPlainly b = s.storesPlainly b := by
  unfold State.storesPlainly
  rw [State.target_busWrite_plain v hp]

/-- A write to plain storage leaves the overlay. -/
theorem State.busWrite_bootActive_plain {a : Word} (v : Byte) (hp : s.storesPlainly a = true) :
    (s.busWrite a v).bootActive = s.bootActive := by
  obtain ⟨n, k, ht, -⟩ := s.storesPlainly_cases hp
  rw [s.busWrite_plain v hp ht, State.store_bootActive]

/-- Stores to plain storage leave the overlay, and every address whose cell is behind none of them reads as before. -/
theorem State.writes_plain {ws : List (Word × Byte)} (hp : ∀ w ∈ ws, s.storesPlainly w.1 = true) :
    (s.writes ws).bootActive = s.bootActive ∧
      ∀ b, (∀ w ∈ ws, s.target w.1 ≠ s.target b) → (s.writes ws).peek b = s.peek b := by
  induction ws generalizing s with
  | nil => exact ⟨rfl, fun _ _ => rfl⟩
  | cons w ws ih =>
    obtain ⟨hw, hws⟩ := List.forall_mem_cons.1 hp
    obtain ⟨hboot, hpeek⟩ := ih (s := s.busWrite w.1 w.2)
      fun x hx => (State.storesPlainly_busWrite_plain w.2 hw x.1).trans (hws x hx)
    refine ⟨hboot.trans (State.busWrite_bootActive_plain w.2 hw), fun b hb => ?_⟩
    obtain ⟨hbw, hbws⟩ := List.forall_mem_cons.1 hb
    refine (hpeek b fun x hx => ?_).trans (State.peek_busWrite_ne w.2 hw hbw.symm)
    rw [State.target_busWrite_plain w.2 hw, State.target_busWrite_plain w.2 hw]
    exact hbws x hx

end Sys2Proof.Machine

open Sys2Proof Sys2Proof.Machine

/-- Settles O10: such an instruction is the read and then a continuation that a raise skips. -/
theorem readBeyondTheRomImageFaults : Obligations.ReadBeyondTheRomImageFaults := by
  unfold Obligations.ReadBeyondTheRomImageFaults
  refine ⟨fun i s a ha hnone => ?_, State.peek_eq_none_iff⟩
  obtain ⟨k, hexec⟩ := exec_of_readAddr ha
  rw [hexec, finish_busRead_of_peek_none hnone]

/-- Settles O39, from the stores an instruction makes and what a list of stores leaves. -/
theorem instructionsStoreOnlyWhereTheySay : Obligations.InstructionsStoreOnlyWhereTheySay := by
  unfold Obligations.InstructionsStoreOnlyWhereTheySay
  intro i s t h
  obtain ⟨ws, b, hseq, hmem, ht⟩ := (execEffect_of_next h).stores
  refine ⟨fun n k hcell => ?cell, fun hie => ?ie, fun hbank => ?bank, fun hnone => ?mem, fun hboot hplain a ha => ?peek⟩
  case cell =>
    rw [ht]
    exact State.cell_writes_ne (s := { s with bootActive := b }) hseq fun w hw => hcell w.1 (hmem w hw)
  case ie =>
    rw [ht]
    exact State.writes_ie (s := { s with bootActive := b }) fun w hw hw' => hie (hw' ▸ hmem w hw)
  case bank =>
    rw [ht]
    exact State.writes_bank (s := { s with bootActive := b }) fun w hw => hbank w.1 (hmem w hw)
  case mem =>
    obtain rfl : ws = [] := List.eq_nil_iff_forall_not_mem.2 fun w hw => by simpa [hnone] using hmem w hw
    rw [ht]
    rfl
  case peek =>
    obtain ⟨hact, hpeek⟩ := State.writes_plain (s := { s with bootActive := b }) fun w hw => hplain w.1 (hmem w hw)
    obtain rfl : b = s.bootActive := by rw [ht] at hboot; exact hact.symm.trans hboot
    rw [ht]
    exact hpeek a fun w hw => ha w.1 (hmem w hw)

end

section
/-! SUPPORT. The stack round trip (20_memory.md R131): what a push stored in plain storage is what a pop returns, for `PUSH`
and `POP` and for a call and its return; then the settled obligations of that rule. -/
namespace Sys2Proof.Machine

variable {s : State}

/-- A push on plain stack bytes changes memory and `sp` alone, and a pop after it returns the word and brings `sp` back,
wherever `pc` and the clock have gone in between. -/
theorem State.push16_then_pop16 (v : Word) (hg : s.mem.Good s.cart.ramBanks) (hsp : 0x0002 ≤ s.sp.toNat)
    (h1 : s.storesPlainly (s.sp - 1) = true) (h2 : s.storesPlainly (s.sp - 2) = true) :
    ∃ m : Arrays, s.push16 v = .ok () { s with mem := m, sp := s.sp - 2 } ∧
      ∀ (pc : Word) (n : Nat), State.pop16 { s with mem := m, sp := s.sp - 2, pc := pc, clkTotal := n } =
        .ok v { s with mem := m, pc := pc, clkTotal := n } := by
  obtain ⟨m, hm, hlo, hhi⟩ := State.stack_stores (hiByte v) (loByte v) hg hsp h1 h2
  refine ⟨m, ?_, fun pc n => ?_⟩
  · rw [State.push16_ok v hsp, hm]
    rfl
  · exact State.pop16_after rfl hsp hlo hhi (State.storesPlainly_ne h1) (State.storesPlainly_ne h2)

/-- A pair reads back what was written to it, `AF` without the low nibble (10_state.md R21, R24). -/
theorem State.stackPair_setStackPair (s : State) (qq : StackPair) (v : Word) :
    (s.setStackPair qq v).stackPair qq = if qq = .AF then v &&& 0xFFF0#16 else v := by
  cases qq with
  | AF => exact s.af_setAF v
  | BC | DE | HL => exact wordOf_hi_lo v

/-- Writing back a pair's own value changes no register and no flag. -/
theorem State.setStackPair_stackPair (s : State) (qq : StackPair) :
    (s.setStackPair qq (s.stackPair qq)).regs = s.regs ∧ (s.setStackPair qq (s.stackPair qq)).flags = s.flags := by
  cases qq <;> simp [State.setStackPair, State.stackPair, State.bc, State.de, State.hl, State.af, State.setAF]

theorem State.stackPair_finish (s : State) (qq : StackPair) (len n : Nat) :
    (s.finish len n).stackPair qq = s.stackPair qq := by cases qq <;> rfl

/-- A call to `target` over plain stack bytes, then `RET` or `RETI` (45_control_flow.md R351). -/
theorem callTo_then_return (target : Word) (len n : Nat) (hg : s.mem.Good s.cart.ramBanks) (hsp : 0x0002 ≤ s.sp.toNat)
    (h1 : s.storesPlainly (s.sp - 1) = true) (h2 : s.storesPlainly (s.sp - 2) = true) :
    ∃ t u v, callTo target len n s = .next t ∧ exec .ret t = .next u ∧ exec .reti t = .next v ∧ t.pc = target ∧
      u.pc = s.pc + BitVec.ofNat 16 len ∧ u.sp = s.sp ∧ u.regs = s.regs ∧ u.flags = s.flags ∧ u.ime = s.ime ∧
      v.pc = u.pc ∧ v.sp = s.sp ∧ v.regs = s.regs ∧ v.flags = s.flags ∧ v.ime = true ∧ v.fault = s.fault := by
  obtain ⟨m, hpush, hpop⟩ := State.push16_then_pop16 (s.pc + BitVec.ofNat 16 len) hg hsp h1 h2
  have hcall : callTo target len n s =
      .next { s with mem := m, sp := s.sp - 2, pc := target, clkTotal := s.clkTotal + n } := by
    rw [callTo, hpush]
    rfl
  have hret := hpop target (s.clkTotal + n)
  exact ⟨_, _, _, hcall, exec_ret_ok hret, exec_reti_ok hret, rfl, rfl, rfl, rfl, rfl, rfl, rfl, rfl, rfl, rfl, rfl, rfl⟩

end Sys2Proof.Machine

open Sys2Proof Sys2Proof.Machine

/-- Settles O16: the pop returns the pushed word, and a pair holds what is written to it. -/
theorem pushThenPopRestores : Obligations.PushThenPopRestores := by
  unfold Obligations.PushThenPopRestores
  intro qq qq' s hg hsp h1 h2
  obtain ⟨m, hpush, hpop⟩ := State.push16_then_pop16 (s.stackPair qq) hg hsp h1 h2
  have hexec : exec (Instr.push qq) s =
      .next { s with mem := m, sp := s.sp - 2, pc := s.pc + 1, clkTotal := s.clkTotal + 16 } := by
    rw [exec_push, pushPair, hpush]
    rfl
  refine ⟨_, _, hexec, exec_pop_ok (hpop (s.pc + 1) (s.clkTotal + 16)), by simp, by simp, ?_, ?_⟩
  · rw [State.stackPair_finish, State.stackPair_setStackPair]
  · rintro rfl
    rw [State.finish_regs, State.finish_flags]
    exact State.setStackPair_stackPair { s with mem := m, pc := s.pc + 1, clkTotal := s.clkTotal + 16 } qq'

/-- Settles O35: `CALL` and `RST` are the same call to different targets. -/
theorem callThenReturnResumes : Obligations.CallThenReturnResumes := by
  unfold Obligations.CallThenReturnResumes
  intro y a16 s hg hsp h1 h2 c hc
  rcases hc with rfl | rfl
  · rw [if_pos rfl]
    exact callTo_then_return a16 3 24 hg hsp h1 h2
  · have hne : Instr.rst y ≠ .call_a16 a16 := by fin_cases y <;> nofun
    have hlength : (Instr.rst y).length = 1 := by fin_cases y <;> rfl
    rw [if_neg hne, hlength, exec_rst]
    exact callTo_then_return _ 1 16 hg hsp h1 h2

end

section
/-! SUPPORT. Faults are precise (60_exceptions.md R501, R506, R507): a step that records one leaves what its interrupt check
left, and a fetch that finds no byte raises at that byte (30_encoding.md R151); then the settled obligation. -/
namespace Sys2Proof.Machine

variable {s t : State}

/-! ## What a step that records a fault leaves (R501, R507) -/

/-- An instruction that records a fault, in a state without one, changes nothing else but the overlay. -/
theorem ExecEffect.raised_eq {i : Instr} {f : Fault} (h : ExecEffect i s t) (hs : s.fault = none) (ht : t.fault = some f) :
    ∃ b, t = { s with fault := some f, bootActive := b } ∧ (b = true → s.bootActive = true) := by
  cases h with
  | raised g b hb =>
    obtain rfl : g = f := Option.some.inj ht
    exact ⟨b, rfl, hb⟩
  | done ws b n _ hws hseq hb hn hflags hime hei hrun heq =>
    obtain ⟨-, hfault, -⟩ := State.writes_frame ws { s with bootActive := b }
    rw [heq] at ht
    cases (hfault.trans hs).symm.trans ht

/-- The end of an `EI` delay does not come about in a faulted state (46_cpu_control.md R374). -/
theorem State.endEiDelay_of_fault (w : Bool) (h : s.fault ≠ none) : s.endEiDelay w = s :=
  if_neg fun hc => h hc.1

/-- The PPU does not act in a faulted state (51_ppu.md R434). -/
theorem State.ppuTick_of_fault (h : s.fault ≠ none) : s.ppuTick = s :=
  if_pos (Option.isSome_iff_ne_none.2 h)

/-- A CPU tick that records a fault leaves what its interrupt check left, with the fault, but for the overlay. -/
theorem State.cpuTick_of_fault {u : State} {f : Fault} (hf : s.fault = none) (hr : s.run ≠ .stopped)
    (h : s.cpuTick = .next u) (hu : u.fault = some f) :
    ∃ b, u = { s.interruptCheck with fault := some f, bootActive := b } ∧
      (b = true → s.interruptCheck.bootActive = true) := by
  obtain ⟨u', hu', hcases⟩ := State.cpuTick_cases hf hr
  obtain rfl : u' = u := Host.Outcome.next.inj (hu'.symm.trans h)
  obtain ⟨rfl, -⟩ | ⟨hc, -, rfl⟩ | ⟨-, -, b, g, hb, rfl⟩ | ⟨hc, -, b, i, t, hb, -, -, heffect, rfl⟩ := hcases
  · exact ⟨s.interruptCheck.bootActive, by rw [← hu], id⟩
  · cases hc.symm.trans hu
  · obtain rfl : g = f := Option.some.inj hu
    exact ⟨b, rfl, hb⟩
  · have ht : t.fault = some f := (State.endEiDelay_fault _ _).symm.trans hu
    obtain ⟨b', rfl, hb'⟩ := heffect.raised_eq hc ht
    exact ⟨b', State.endEiDelay_of_fault _ nofun, fun h => hb (hb' h)⟩

/-- A step of the frame loop that records a fault, likewise. -/
theorem step_of_fault {f : Fault} (hs : s.Ticks) (h : step s = .next t) (ht : t.fault = some f) :
    ∃ b, t = { s.interruptCheck with fault := some f, bootActive := b } ∧ (b = true → s.bootActive = true) := by
  obtain ⟨u, hu, hstep⟩ := step_ticks hs.noFault hs.notStopped hs.inFrame
  obtain rfl : u.ppuTick = t := Host.Outcome.next.inj (hstep.symm.trans h)
  have huf : u.fault = some f := by rwa [u.ppuTick_eq] at ht
  obtain ⟨b, rfl, hb⟩ := State.cpuTick_of_fault hs.noFault hs.notStopped hu huf
  exact ⟨b, State.ppuTick_of_fault nofun, fun h => s.interruptCheck_keeps.overlay (hb h)⟩

/-! ## A fetch that finds no byte (R151, R502) -/

/-- The length of a decoded instruction is that of its opcode's format (30_encoding.md R152). -/
theorem length_decodeOp (op b1 b2 : Byte) : (decodeOp op b1 b2).length = (formatOf op).length := by
  rw [Instr.length, (encode_decodeOp op b1 b2).2]
  cases formatOf op <;> rfl

theorem length_of_decode {op : Byte} {i : Instr} {rest : List Byte} (h : decode [op, 0#8, 0#8] = .ok (i, rest)) :
    i.length = (formatOf op).length := by
  have hi : i = decodeOp op 0 0 := by
    unfold decode at h
    cases hf : formatOf op <;> simp only [hf, Except.ok.injEq, Prod.mk.injEq] at h <;> exact h.1.symm
  rw [hi, length_decodeOp]

/-- The overlay after the first `n` bytes from `pc` on are read (20_memory.md R74). -/
def State.overlayAfterFetch (s : State) (n : Nat) : Bool :=
  s.bootActive && (List.range n).all (fun j => decide (s.pc + BitVec.ofNat 16 j ≠ 0x0100#16))

/-- No opcode byte. -/
theorem State.fetch_no_opcode (h : s.peek s.pc = none) :
    s.fetch = .raised { s with fault := some (.addressError s.pc.toNat), bootActive := s.overlayAfterFetch 1 } := by
  rw [State.fetch, s.busRead_of_peek_none h, State.afterRead_eq]
  simp [Access.andThen, State.raise, State.overlayAfterFetch]

/-- No first operand byte, in a format that has one. -/
theorem State.fetch_no_first_operand {op : Byte} (h0 : s.peek s.pc = some op) (hlen : 1 < (formatOf op).length)
    (h1 : s.peek (s.pc + 1) = none) :
    s.fetch =
      .raised { s with fault := some (.addressError (s.pc + 1).toNat), bootActive := s.overlayAfterFetch 2 } := by
  have hread : (s.afterRead s.pc).busRead (s.pc + 1) =
      .raised { s with fault := some (.addressError (s.pc + 1).toNat), bootActive := s.overlayAfterFetch 2 } := by
    rw [State.busRead_of_peek_none _ ((s.peek_afterRead_succ s.pc).trans h1), State.afterRead_eq, State.afterRead_eq]
    simp [State.raise, State.overlayAfterFetch, List.range_succ, Bool.and_assoc]
  rw [State.fetch, s.busRead_of_peek h0]
  cases hf : formatOf op with
  | op => rw [hf] at hlen; exact absurd hlen (by decide)
  | op8 | cb | op16 => simp only [Access.andThen, hf, hread]

/-- No second operand byte, in the format that has one. -/
theorem State.fetch_no_second_operand {op b1 : Byte} (h0 : s.peek s.pc = some op) (hlen : 2 < (formatOf op).length)
    (h1 : s.peek (s.pc + 1) = some b1) (h2 : s.peek (s.pc + 2) = none) :
    s.fetch =
      .raised { s with fault := some (.addressError (s.pc + 2).toNat), bootActive := s.overlayAfterFetch 3 } := by
  have hsucc : s.pc + 2 = s.pc + 1 + 1 := by rw [BitVec.add_assoc]; rfl
  have hread : (s.afterRead s.pc).busRead (s.pc + 1) = .ok b1 ((s.afterRead s.pc).afterRead (s.pc + 1)) :=
    State.busRead_of_peek _ ((s.peek_afterRead_succ s.pc).trans h1)
  have hpeek : ((s.afterRead s.pc).afterRead (s.pc + 1)).peek (s.pc + 2) = none := by
    rw [hsucc, State.peek_afterRead_succ, ← hsucc, State.peek_afterRead_succ2, h2]
  have hread' : ((s.afterRead s.pc).afterRead (s.pc + 1)).busRead (s.pc + 2) =
      .raised { s with fault := some (.addressError (s.pc + 2).toNat), bootActive := s.overlayAfterFetch 3 } := by
    rw [State.busRead_of_peek_none _ hpeek, State.afterRead_eq, State.afterRead_eq, State.afterRead_eq]
    simp [State.raise, State.overlayAfterFetch, List.range_succ, Bool.and_assoc]
  rw [State.fetch, s.busRead_of_peek h0]
  cases hf : formatOf op with
  | op16 => simp only [Access.andThen, hf, hread, hread']
  | op | op8 | cb => rw [hf] at hlen; exact absurd hlen (by decide)

/-- A fetch raises at the first byte that is missing, among those that byte 0 asks for. -/
theorem State.fetch_raised {k : Nat} (hk : k = 0 ∨ ∃ op, s.peek s.pc = some op ∧ k < (formatOf op).length)
    (hread : ∀ j, j < k → (s.peek (s.pc + BitVec.ofNat 16 j)).isSome = true)
    (hnone : s.peek (s.pc + BitVec.ofNat 16 k) = none) :
    s.fetch = .raised { s with
      fault := some (.addressError (s.pc + BitVec.ofNat 16 k).toNat), bootActive := s.overlayAfterFetch (k + 1) } := by
  obtain rfl | ⟨op, h0, hlen⟩ := hk
  · rw [BitVec.add_zero] at hnone ⊢
    exact State.fetch_no_opcode hnone
  · have hle : (formatOf op).length ≤ 3 := by cases formatOf op <;> decide
    obtain rfl | rfl | rfl : k = 0 ∨ k = 1 ∨ k = 2 := by omega
    · rw [BitVec.add_zero, h0] at hnone
      cases hnone
    · exact State.fetch_no_first_operand h0 hlen hnone
    · obtain ⟨b1, h1⟩ := Option.isSome_iff_exists.1 (hread 1 (by omega))
      exact State.fetch_no_second_operand h0 hlen h1 hnone

end Sys2Proof.Machine

open Sys2Proof Sys2Proof.Machine

/-- Settles O50: the cases of a CPU tick that end in a fault, and the byte at which a fetch raises. -/
theorem faultsArePrecise : Obligations.FaultsArePrecise := by
  unfold Obligations.FaultsArePrecise
  constructor
  · intro s t f hs h ht
    obtain ⟨b, heq, hb⟩ := step_of_fault hs h ht
    exact ⟨b, heq, hb, State.AboutToFetch.interruptCheck_eq⟩
  · intro s k hs hk hread hnone
    have hk' : k = 0 ∨ ∃ op, s.peek s.pc = some op ∧ k < (formatOf op).length := by
      refine hk.imp_right ?_
      rintro ⟨op, i, rest, h0, hdecode, hlen⟩
      exact ⟨op, h0, length_of_decode hdecode ▸ hlen⟩
    exact step_of_fetch_raised hs (State.fetch_raised hk' hread hnone) nofun

end

section
/-! SUPPORT. Loading a cartridge (20_memory.md section 5, 70_reset_and_hazards.md R602): the header's two tables, the
refusals, and the state that a load leaves; then the settled obligation. -/
namespace Sys2Proof.Machine

variable {s t : State} {bytes : List Byte}

/-! ## The header (R121, R122) -/

/-- The variant and the RAM flag that a type byte names, row by row of R121. -/
def typeRow (typeByte : Byte) : Option (Mbc × Bool) :=
  if typeByte = 0x00#8 then some (.romOnly, false)
  else if typeByte = 0x01#8 then some (.mbc1, false)
  else if typeByte ∈ [0x02#8, 0x03#8] then some (.mbc1, true)
  else if typeByte ∈ [0x0F#8, 0x11#8] then some (.mbc3, false)
  else if typeByte ∈ [0x10#8, 0x12#8, 0x13#8] then some (.mbc3, true)
  else if typeByte ∈ [0x19#8, 0x1C#8] then some (.mbc5, false)
  else if typeByte ∈ [0x1A#8, 0x1B#8, 0x1D#8, 0x1E#8] then some (.mbc5, true)
  else none

/-- The model's type-byte table has those rows. -/
theorem typeRow_eq (typeByte : Byte) : typeRow typeByte = (cartType typeByte.toNat).map fun c => (c.mbc, c.ram) := by
  revert typeByte
  decide

/-- The RAM-size codes are the places of a list of six (R122). -/
theorem ramBanksOfCode_eq (code : Nat) : ramBanksOfCode code = [0, 1, 1, 4, 16, 8][code]? := by
  match code with
  | 0 | 1 | 2 | 3 | 4 | 5 => rfl
  | _ + 6 => rfl

theorem selectVariant_eq (m : Mbc) (romSize ramBanks : Nat) :
    selectVariant m romSize ramBanks = if m = .mbc3 ∧ (0x200000 < romSize ∨ 4 < ramBanks) then .mbc30 else m := by
  cases m <;> simp [selectVariant]

/-! ## Refusals and loads (R123, R602) -/

/-- The cartridge of a list of bytes whose header names `c` and `n`. -/
def Cartridge.ofHeader (bytes : List Byte) (c : CartType) (n : Nat) : Cartridge where
  rom := Image.ofBytes bytes
  mbc := selectVariant c.mbc bytes.length (if c.ram = true then n else 0)
  ramBanks := if c.ram = true then n else 0

/-- The state after a cartridge is put in: the bank registers at their start values, cartridge RAM zero. -/
def State.withCartridge (s : State) (c : Cartridge) : State :=
  { s with cart := c, bank := BankRegs.initial, mem := { s.mem with xram := [] } }

theorem State.loadCartridge_short (s : State) (h : bytes.length < 0x0150) :
    s.loadCartridge bytes = .error (.tooShort bytes.length) := by
  rw [State.loadCartridge, Cartridge.parse, if_pos (show (Image.ofBytes bytes).size < 0x0150 from h)]
  rfl

section
variable (h : 0x0150 ≤ bytes.length)
include h

theorem Image.not_short : ¬ (Image.ofBytes bytes).size < 0x0150 := Nat.not_lt.2 h

theorem Image.read_typeByte : (Image.ofBytes bytes).cells.read 0x0147 = bytes[0x0147] :=
  Image.read_ofBytes bytes 0x0147 (by omega)

theorem Image.read_ramCode : (Image.ofBytes bytes).cells.read 0x0149 = bytes[0x0149] :=
  Image.read_ofBytes bytes 0x0149 (by omega)

theorem State.loadCartridge_loads (s : State) {c : CartType} {n : Nat} (hc : cartType bytes[0x0147].toNat = some c)
    (hn : ramBanksOfCode bytes[0x0149].toNat = some n) :
    s.loadCartridge bytes = .ok (s.withCartridge (Cartridge.ofHeader bytes c n)) := by
  rw [State.loadCartridge, Cartridge.parse, if_neg (Image.not_short h), Image.read_typeByte h, Image.read_ramCode h, hc, hn]
  rfl

theorem State.loadCartridge_unsupportedType (s : State) (hc : cartType bytes[0x0147].toNat = none) :
    s.loadCartridge bytes = .error (.unsupportedType bytes[0x0147]) := by
  rw [State.loadCartridge, Cartridge.parse, if_neg (Image.not_short h), Image.read_typeByte h, hc]

theorem State.loadCartridge_unsupportedRamSize (s : State) {c : CartType} (hc : cartType bytes[0x0147].toNat = some c)
    (hn : ramBanksOfCode bytes[0x0149].toNat = none) :
    s.loadCartridge bytes = .error (.unsupportedRamSize bytes[0x0149]) := by
  rw [State.loadCartridge, Cartridge.parse, if_neg (Image.not_short h), Image.read_typeByte h, Image.read_ramCode h, hc, hn]

end

/-- A load that succeeds puts in a cartridge whose image is the bytes given. -/
theorem State.loadCartridge_ok_cases (hload : s.loadCartridge bytes = .ok t) :
    ∃ c : Cartridge, c.rom = Image.ofBytes bytes ∧ t = s.withCartridge c := by
  by_cases hshort : bytes.length < 0x0150
  · rw [s.loadCartridge_short hshort] at hload
    cases hload
  have h : 0x0150 ≤ bytes.length := by omega
  cases hc : cartType bytes[0x0147].toNat with
  | none =>
    rw [State.loadCartridge_unsupportedType h s hc] at hload
    cases hload
  | some c =>
    cases hn : ramBanksOfCode bytes[0x0149].toNat with
    | none =>
      rw [State.loadCartridge_unsupportedRamSize h s hc hn] at hload
      cases hload
    | some n =>
      rw [State.loadCartridge_loads h s hc hn] at hload
      cases hload
      exact ⟨_, rfl, rfl⟩

/-! ## What a load leaves (R107, R108, R111-R114) -/

/-- The start values of the bank registers are legal in every variant. -/
theorem BankRegs.initial_legal (m : Mbc) : BankRegs.initial.legal m = true := by
  cases m <;> decide

/-- After a load bank 0 is shown below 0x4000, whatever the variant. -/
theorem State.withCartridge_rom00Bank (s : State) (c : Cartridge) : (s.withCartridge c).rom00Bank = 0 := by
  rw [State.rom00Bank]
  cases (s.withCartridge c).cart.mbc <;> rfl

/-- After a load a read below 0x4000 that no overlay serves returns the image's byte. -/
theorem State.peek_withCartridge {c : Cartridge} {k : Nat} (hk : k < c.rom.size) (hlow : k < 0x4000)
    (hact : s.bootActive = false) : (s.withCartridge c).peek (BitVec.ofNat 16 k) = some (c.rom.cells.read k) := by
  have ha : (BitVec.ofNat 16 k).toNat = k := by
    rw [BitVec.toNat_ofNat]
    omega
  have ho : (s.withCartridge c).overlayByte (BitVec.ofNat 16 k) = none :=
    State.overlayByte_of_not_covered _ fun ⟨_, _, hact', _⟩ => by cases hact.symm.trans hact'
  have hoff : (s.withCartridge c).romOffset 0 (BitVec.ofNat 16 k) = k := by
    rw [State.romOffset, ha, Nat.zero_mod, Nat.zero_mul, Nat.zero_add, Nat.mod_eq_of_lt hlow]
  rw [State.peek_rom _ ho (by omega), if_pos (by omega), State.withCartridge_rom00Bank,
    State.romByte_of_lt _ (by rw [hoff]; exact hk), hoff]
  rfl

/-- A load keeps the machine invariant. -/
theorem State.withCartridge_inv {c : Cartridge} (h : s.Inv) (hrom : c.rom.good = true) : (s.withCartridge c).Inv where
  arrays := { h.arrays with xram := Memory.good_nil _ }
  rom := hrom
  boot := h.boot
  bank := BankRegs.initial_legal _
  total := h.total
  mode := h.mode

end Sys2Proof.Machine

open Sys2Proof Sys2Proof.Machine

/-- Settles O60: the refusals and the selection by the header's two tables, then what a load leaves. -/
theorem loadedCartridge : Obligations.LoadedCartridge := by
  unfold Obligations.LoadedCartridge
  refine ⟨fun s bytes => s.loadCartridge_short, fun s bytes h => ?header, fun s t bytes hload => ?loaded⟩
  case header =>
    intro typeByte ramCode variantAndRam banks
    have hvariant : variantAndRam = (cartType typeByte.toNat).map fun c => (c.mbc, c.ram) := typeRow_eq typeByte
    have hbanks : banks = ramBanksOfCode ramCode.toNat := (ramBanksOfCode_eq _).symm
    rw [hvariant, hbanks]
    cases hc : cartType typeByte.toNat with
    | none =>
      have herror := State.loadCartridge_unsupportedType h s hc
      exact ⟨nofun, fun _ _ => herror, fun hne => absurd rfl hne, fun _ _ => ⟨_, herror⟩⟩
    | some c =>
      refine ⟨fun m ram n hm hn => ?_, nofun, fun _ hn => State.loadCartridge_unsupportedRamSize h s hc hn, nofun⟩
      cases hm
      exact ⟨_, State.loadCartridge_loads h s hc hn, rfl, selectVariant_eq _ _ _⟩
  case loaded =>
    obtain ⟨c, hrom, rfl⟩ := State.loadCartridge_ok_cases hload
    have hsize : c.rom.size = bytes.length := by rw [hrom]; rfl
    have hread (k : Nat) (hk : k < bytes.length) : c.rom.cells.read k = bytes[k] := by
      rw [hrom]
      exact Image.read_ofBytes bytes k hk
    refine ⟨rfl, hsize, hread, fun k hk hlow hact => ?_, fun hs => State.withCartridge_inv hs ?_⟩
    · rw [← hread k hk]
      exact State.peek_withCartridge (hsize ▸ hk) hlow hact
    · rw [hrom]
      exact Memory.good_ofBytes bytes

end

section
/-! SUPPORT. The decoder on lists of bytes (30_encoding.md R152, R153): what it takes, that it takes every list long enough,
and that it reads every well-formed instruction back from its encoding; then the settled obligations of those rules. -/
namespace Sys2Proof

variable {i : Instr} {op : Byte} {tail rest bytes : List Byte}

/-- Everything that the decoder takes: the bytes that the format of byte 0 asks for, and no more (R152). -/
theorem decode_ok_cases (h : decode bytes = .ok (i, rest)) :
    ∃ op b1 b2, i = decodeOp op b1 b2 ∧ bytes = [op, b1, b2].take (formatOf op).length ++ rest := by
  unfold decode at h
  split at h
  · cases h
  next op tail =>
    split at h <;> cases h
    next hf => exact ⟨op, 0, 0, rfl, by rw [hf]; rfl⟩
    next b1 hf => exact ⟨op, b1, 0, rfl, by rw [hf]; rfl⟩
    next b1 hf => exact ⟨op, b1, 0, rfl, by rw [hf]; rfl⟩
    next b1 b2 hf => exact ⟨op, b1, b2, rfl, by rw [hf]; rfl⟩

/-- A list as long as the format of its byte 0 asks for decodes, and the decoder takes that many bytes (R152). -/
theorem decode_of_length_le (h : (formatOf op).length ≤ (op :: tail).length) :
    ∃ b1 b2, decode (op :: tail) = .ok (decodeOp op b1 b2, (op :: tail).drop (formatOf op).length) := by
  cases hf : formatOf op <;> rw [hf] at h
  case op => exact ⟨0, 0, by simp [decode, hf, Format.length]⟩
  case op8 | cb =>
    match tail with
    | b1 :: tail => exact ⟨b1, 0, by simp [decode, hf, Format.length]⟩
  case op16 =>
    match tail with
    | b1 :: b2 :: tail => exact ⟨b1, b2, by simp [decode, hf, Format.length]⟩

/-- The length by the opcode lists of R152. -/
theorem length_formatOf (op : Byte) : (formatOf op).length =
    if op.toNat ∈ op16Opcodes then 3
    else if op.toNat ∈ op8Opcodes then 2
    else if op.toNat = 0xCB then 2
    else 1 := by
  simp only [formatOf, List.contains_iff_mem, apply_ite Format.length]
  rfl

/-- A word operand is read back from its two bytes, low byte first (R153). -/
theorem decode_word_operand {f : Word → Instr} (hf : formatOf op = .op16)
    (hop : ∀ b1 b2, decodeOp op b1 b2 = f (wordOf b2 b1)) (w : Word) (rest : List Byte) :
    decode (op :: loByte w :: hiByte w :: rest) = .ok (f w, rest) := by
  simp only [decode, hf, hop, wordOf_hi_lo]

/-- The round trip, family by family: operand codes are finitely many and the opcode byte decides, byte operands are
passed through, and a word operand is its two bytes. Only the row `PREFIX CB` is not read back (log 7). -/
theorem Instr.Shape.decode_encode (h : i.Shape) (hwf : i.wellFormed = true) (rest : List Byte) :
    decode (encode i ++ rest) = .ok (i, rest) := by
  cases h with
  | prefix_CB _ => cases hwf
  | ldPair rr d16 => cases rr <;> exact decode_word_operand rfl (fun _ _ => rfl) d16 rest
  | jp cc a16 | call cc a16 => cases cc <;> exact decode_word_operand rfl (fun _ _ => rfl) a16 rest
  | jp_a16 a16 | call_a16 a16 | ld_ind_a16_A a16 | ld_A_ind_a16 a16 | ld_ind_a16_SP a16 =>
    exact decode_word_operand rfl (fun _ _ => rfl) a16 rest
  | ld_reg dst src => cases dst <;> cases src <;> rfl
  | ld_reg_mem r | ld_mem_reg r | ldImm_reg r _ | inc_reg r | dec_reg r => cases r <;> rfl
  | alu_reg op r | shift_reg op r => cases op <;> cases r <;> rfl
  | alu_mem op | aluImm op _ | shift_mem op => cases op <;> rfl
  | bit_reg b r | res_reg b r | set_reg b r => fin_cases b <;> cases r <;> rfl
  | bit_mem b | res_mem b | set_mem b | rst b => fin_cases b <;> rfl
  | addHL rr | incPair rr | decPair rr => cases rr <;> rfl
  | push qq | pop qq => cases qq <;> rfl
  | jr cc _ | retCond cc => cases cc <;> rfl
  | unassigned p hmem => fin_cases hmem <;> rfl
  | _ => rfl

end Sys2Proof

open Sys2Proof Sys2Proof.Machine

/-- Settles O2: every instruction has a shape, and every well-formed shape is read back. -/
theorem decodeEncodeRoundTrip : Obligations.DecodeEncodeRoundTrip := by
  unfold Obligations.DecodeEncodeRoundTrip
  exact fun i rest hwf => i.shape.decode_encode hwf rest

/-- Settles O3: the decoder takes the bytes of byte 0's format, and those are the instruction's encoding. -/
theorem decodedBytesAreTheEncoding : Obligations.DecodedBytesAreTheEncoding := by
  unfold Obligations.DecodedBytesAreTheEncoding
  intro bytes i rest h
  obtain ⟨op, b1, b2, rfl, rfl⟩ := decode_ok_cases h
  obtain ⟨hwf, hbytes⟩ := encode_decodeOp op b1 b2
  exact ⟨hwf, by rw [hbytes]⟩

/-- Settles O4: the statement's length is that of byte 0's format, which is what the decoder asks for. -/
theorem lengthIsAFunctionOfByte0 : Obligations.LengthIsAFunctionOfByte0 := by
  unfold Obligations.LengthIsAFunctionOfByte0
  intro op tail len h
  have hlen : len = (formatOf op).length := (length_formatOf op).symm
  rw [hlen] at h ⊢
  obtain ⟨b1, b2, hdecode⟩ := decode_of_length_le h
  exact ⟨_, hdecode, length_decodeOp op b1 b2⟩

/-- Settles O1: the decoder evaluated on each word. -/
theorem specWordsDecode : Obligations.SpecWordsDecode := by
  unfold Obligations.SpecWordsDecode
  and_intros <;> rfl

end

section
/-! SUPPORT. The row `PREFIX CB` (46_cpu_control.md R375): what the instruction that its second byte selects leaves, for a
register operand and for the byte at `x[HL]`; then the settled obligation of that rule. -/
namespace Sys2Proof.Machine

variable {s : State} {op2 : Byte}

theorem fieldX_cases (op : Byte) : fieldX op = 0 ∨ fieldX op = 1 ∨ fieldX op = 2 ∨ fieldX op = 3 := by
  have := op.isLt
  unfold fieldX
  omega

/-- Every operand code but 6 names a register (30_encoding.md R155). -/
theorem Operand8.ofCode_reg {n : Nat} (h : n ≠ 6) : ∃ r, Operand8.ofCode n = .reg r := by
  unfold Operand8.ofCode
  split
  case h_7 => exact absurd rfl h
  all_goals exact ⟨_, rfl⟩

/-- With a register operand the selected instruction writes registers and flags alone, in 8 cycles (R315-R335). -/
theorem selectCB_of_reg (s : State) {r : Reg8} (h : Operand8.ofCode (fieldZ op2) = .reg r) :
    ∃ regs flags, selectCB op2 s = .next (State.finish { s with regs := regs, flags := flags } 2 8) := by
  unfold selectCB
  rw [h]
  obtain hx | hx | hx | hx := fieldX_cases op2 <;> rw [hx] <;> exact ⟨_, _, rfl⟩

/-- With the operand `(HL)`, where the bus returns a byte there, the selected instruction is a read and then a bit test that
writes flags alone, or a store at the same address (R316-R336). -/
theorem selectCB_of_mem {v : Byte} (hz : fieldZ op2 = 6) (hv : s.peek s.hl = some v) :
    (fieldX op2 = 1 ∧ ∃ flags, selectCB op2 s = .next (((s.afterRead s.hl).setFlags flags).finish 2 12)) ∨
    (fieldX op2 ≠ 1 ∧ ∃ w flags,
      selectCB op2 s = .next ((((s.afterRead s.hl).busWrite s.hl w).setFlags flags).finish 2 16)) := by
  have hread (k : Byte → State → State) : (s.busRead s.hl).finish k = .next (k v (s.afterRead s.hl)) := by
    rw [s.busRead_of_peek hv]
    rfl
  unfold selectCB
  rw [hz]
  obtain hx | hx | hx | hx := fieldX_cases op2 <;> rw [hx]
  · exact .inr ⟨by decide, _, _, hread _⟩
  · exact .inl ⟨rfl, _, hread _⟩
  · exact .inr ⟨by decide, _, _, hread _⟩
  · exact .inr ⟨by decide, _, _, hread _⟩

end Sys2Proof.Machine

open Sys2Proof Sys2Proof.Machine

/-- Settles O38: the meaning is that of the decoded `CB` row, and each operand's fields say what it leaves. -/
theorem prefixRunsTheSelectedInstruction : Obligations.PrefixRunsTheSelectedInstruction := by
  unfold Obligations.PrefixRunsTheSelectedInstruction
  intro op2 s
  refine ⟨⟨decodeCB op2, rfl, (encode_decodeOp 0xCB op2 0).1, exec_prefix_eq s op2⟩, fun hz => ?reg, fun hz v hv => ?mem⟩
  case reg =>
    obtain ⟨r, hr⟩ := Operand8.ofCode_reg hz
    obtain ⟨regs, flags, h⟩ := selectCB_of_reg s hr
    exact ⟨_, h, rfl, rfl, rfl, rfl⟩
  case mem =>
    obtain ⟨hx, flags, h⟩ | ⟨hx, w, flags, h⟩ := selectCB_of_mem hz hv
    · exact ⟨_, h, by simp [hx]⟩
    · exact ⟨_, h, by simp [hx]⟩

end

section
/-! SUPPORT. A step that runs an instruction (30_encoding.md R150): from its fetch, and what it leaves in `IME` and in the
`EI` delay (46_cpu_control.md R373, R374, 45_control_flow.md R363); then the settled obligations of those rules. -/
namespace Sys2Proof.Machine

variable {s t c : State} {i : Instr}

/-- A step from a state about to fetch runs what it fetches. -/
theorem State.AboutToFetch.step_of_fetch (h : s.AboutToFetch) (hfetch : s.fetch = .ok i c) :
    step s = onNext (exec i c) (fun t => .next ((t.endEiDelay s.eiPending).ppuTick)) := by
  have hrun := step_runs (i := i) (u := c) h.noFault h.notStopped h.inFrame
  rw [h.interruptCheck_eq] at hrun
  exact hrun h.noFault (by rw [h.running]; nofun) hfetch

theorem State.ppuTick_ime (s : State) : s.ppuTick.ime = s.ime := by rw [s.ppuTick_eq]

theorem State.ppuTick_eiPending (s : State) : s.ppuTick.eiPending = s.eiPending := by rw [s.ppuTick_eq]

/-- The end of a delay that was pending before the fetch and still is sets `IME`. -/
theorem State.endEiDelay_ime (w : Bool) (h : s.fault = none) : (s.endEiDelay w).ime = (s.ime || w && s.eiPending) := by
  unfold State.endEiDelay
  cases w <;> cases hp : s.eiPending <;> simp [h]

/-- Only a delay that was not pending before the fetch is left. -/
theorem State.endEiDelay_eiPending (w : Bool) (h : s.fault = none) :
    (s.endEiDelay w).eiPending = (!w && s.eiPending) := by
  unfold State.endEiDelay
  cases w <;> cases hp : s.eiPending <;> simp [h, hp]

/-- A step that does not fault leaves what its instruction left, with a delay that was pending before ended. -/
theorem State.AboutToFetch.interruptEnable_of_step (h : s.AboutToFetch) (hfetch : s.fetch = .ok i c)
    (hstep : step s = .next t) (hfault : t.fault = none) :
    ∃ u, exec i c = .next u ∧ u.fault = none ∧
      t.ime = (u.ime || s.eiPending && u.eiPending) ∧ t.eiPending = (!s.eiPending && u.eiPending) := by
  obtain ⟨u, hu, -⟩ := exec_effect i c
  rw [h.step_of_fetch hfetch, hu] at hstep
  obtain rfl : (u.endEiDelay s.eiPending).ppuTick = t := Host.Outcome.next.inj hstep
  have hf : u.fault = none := by rwa [State.ppuTick_eq, State.endEiDelay_fault] at hfault
  refine ⟨u, hu, hf, ?_, ?_⟩
  · rw [State.ppuTick_ime, State.endEiDelay_ime _ hf]
  · rw [State.ppuTick_eiPending, State.endEiDelay_eiPending _ hf]

theorem exec_di_disables (h : exec .di s = .next t) : t.ime = false ∧ t.eiPending = false := by
  cases h
  exact ⟨rfl, rfl⟩

theorem exec_ei_delays (h : exec .ei s = .next t) : t.ime = s.ime ∧ t.eiPending = true := by
  cases h
  exact ⟨rfl, rfl⟩

/-- `RETI` that does not fault sets `IME` at once; the only fault is that of its pop. -/
theorem exec_reti_enables (h : exec .reti s = .next t) (hf : t.fault = none) : t.ime = true ∧ t.eiPending = false := by
  obtain ⟨b, -, ⟨v, hpop⟩ | ⟨f, hpop⟩⟩ := s.pop16_cases
  · cases (exec_reti_ok hpop).symm.trans h
    exact ⟨rfl, rfl⟩
  · have hexec : exec .reti s = (s.returnFrom 16).finish fun _ u => { u with ime := true, eiPending := false } := rfl
    rw [hexec, State.returnFrom, hpop] at h
    cases h
    cases hf

end Sys2Proof.Machine

open Sys2Proof Sys2Proof.Machine

/-- Settles O49: what the step leaves is what the instruction left with an older delay ended; then instruction by
instruction. -/
theorem enableInterruptsIsDelayedByOneInstruction : Obligations.EnableInterruptsIsDelayedByOneInstruction := by
  unfold Obligations.EnableInterruptsIsDelayedByOneInstruction
  intro s t bytes i hs hdecode hpeek hstep hfault
  obtain ⟨u, hexec, hf, hime, hei⟩ :=
    hs.interruptEnable_of_step (State.fetch_of_decode hdecode hpeek) hstep hfault
  obtain ⟨himeKept, heiKept, -⟩ := (execEffect_of_next hexec).control
  rw [hime, hei]
  refine ⟨?di, ?reti, ?ei, ?eiAgain, ?pending, ?clear⟩
  case di =>
    rintro rfl
    obtain ⟨hui, hue⟩ := exec_di_disables hexec
    simp [hui, hue]
  case reti =>
    rintro rfl
    obtain ⟨hui, hue⟩ := exec_reti_enables hexec hf
    simp [hui, hue]
  case ei | eiAgain =>
    rintro rfl hp
    obtain ⟨hui, hue⟩ := exec_ei_delays hexec
    simp [hui, hue, hp]
  case pending | clear =>
    intro hdi hreti hne hp
    simp [himeKept hdi hreti, heiKept hdi hreti hne, hp]

/-- Settles O56: the step law at the state that the interrupt check left, with the fetch over readable bytes. -/
theorem interruptedStepRunsTheHandler : Obligations.InterruptedStepRunsTheHandler := by
  unfold Obligations.InterruptedStepRunsTheHandler
  intro s bytes i hs hfault hrun hdecode hpeek fetched
  exact step_runs hs.noFault hs.notStopped hs.inFrame hfault (by rw [hrun]; nofun) (State.fetch_of_decode hdecode hpeek)

/-- Settles O47: the same law where the interrupt check does nothing. -/
theorem stepRunsTheDecodedInstruction : Obligations.StepRunsTheDecodedInstruction := by
  unfold Obligations.StepRunsTheDecodedInstruction
  intro s bytes i hs hdecode hpeek fetched
  exact hs.step_of_fetch (State.fetch_of_decode hdecode hpeek)

end

section
/-! SUPPORT. The 8-bit loads (40_load8.md R200-R218): what each shared operation leaves, as one record update of the state
before; then the settled obligations of those rules. -/
namespace Sys2Proof.Machine

variable {s : State} {a : Word} {v : Byte}

/-! ## Loads from memory (R202, R205, R206, R209, R211, R213) -/

/-- A meaning whose first read finds a byte goes on with it after the read's side effect (20_memory.md R71, R74). -/
theorem finish_busRead_of_peek (h : s.peek a = some v) (k : Byte → State → State) :
    (s.busRead a).finish k = .next (k v (s.afterRead a)) := by
  rw [s.busRead_of_peek h]
  rfl

theorem loadFrom_of_peek (r : Reg8) (len n : Nat) (h : s.peek a = some v) : loadFrom r a len n s =
    .next { s.afterRead a with
      regs := s.regs.set r v, pc := s.pc + BitVec.ofNat 16 len, clkTotal := s.clkTotal + n } := by
  rw [loadFrom, finish_busRead_of_peek h, State.finish, State.setReg_pc, State.setReg_clkTotal, State.setReg,
    State.afterRead_regs, State.afterRead_pc, State.afterRead_clkTotal]

theorem loadFrom_of_peek_none (r : Reg8) (len n : Nat) (h : s.peek a = none) : loadFrom r a len n s =
    .next { s.afterRead a with fault := some (.addressError a.toNat) } :=
  finish_busRead_of_peek_none h _

/-- The high page lies above the ROM windows (30_encoding.md R153). -/
theorem highPage_ge (a8 : Byte) : 0xFF00 ≤ (highPage a8).toNat := by
  rw [highPage, wordOf_toNat]
  exact Nat.le_add_right _ _

/-- The bus returns a byte for every address in the high page (20_memory.md R71). -/
theorem State.peek_highPage_isSome (s : State) (a8 : Byte) : (s.peek (highPage a8)).isSome = true := by
  rw [Option.isSome_iff_ne_none, Ne, State.peek_eq_none_iff]
  have := highPage_ge a8
  omega

/-- No read in the high page switches the overlay off (20_memory.md R74). -/
theorem State.afterRead_highPage (s : State) (a8 : Byte) : s.afterRead (highPage a8) = s := by
  refine s.afterRead_of_ne fun h => ?_
  have hge := highPage_ge a8
  rw [h] at hge
  exact absurd hge (by decide)

/-- A load from the high page only reads. -/
theorem loadFrom_highPage (r : Reg8) (len n : Nat) {a8 : Byte} (h : s.peek (highPage a8) = some v) :
    loadFrom r (highPage a8) len n s =
      .next { s with regs := s.regs.set r v, pc := s.pc + BitVec.ofNat 16 len, clkTotal := s.clkTotal + n } := by
  rw [loadFrom_of_peek r len n h, s.afterRead_highPage]

/-! ## Stores (R203, R204, R207, R208, R210, R212, R214) -/

theorem storeTo_eq (s : State) (a : Word) (v : Byte) (len n : Nat) : storeTo a v len n s =
    .next { s.busWrite a v with pc := s.pc + BitVec.ofNat 16 len, clkTotal := s.clkTotal + n } := by
  rw [storeTo, State.finish, State.busWrite_pc, State.busWrite_clkTotal]

/-! ## Loads and stores that step `HL` (R215-R218) -/

/-- One step up modulo 0x10000. -/
theorem PostStep.apply_inc (w : Word) : PostStep.inc.apply w = BitVec.ofNat 16 ((w.toNat + 1) % 0x10000) := by
  apply BitVec.eq_of_toNat_eq
  simp [PostStep.apply, BitVec.toNat_add]

/-- One step down modulo 0x10000, where 0xFFFF stands for -1. -/
theorem PostStep.apply_dec (w : Word) : PostStep.dec.apply w = BitVec.ofNat 16 ((w.toNat + 0xFFFF) % 0x10000) := by
  apply BitVec.eq_of_toNat_eq
  simp [PostStep.apply, BitVec.toNat_sub, Nat.add_comm]

theorem storeStep_eq (s : State) (p : PostStep) : storeStep p s =
    .next { s.busWrite s.hl s.regs.a with
      regs := { s.regs with h := hiByte (p.apply s.hl), l := loByte (p.apply s.hl) }
      pc := s.pc + 1
      clkTotal := s.clkTotal + 8 } := by
  rw [storeStep, State.finish, State.setHL_pc, State.setHL_clkTotal, State.setHL, State.busWrite_regs, State.busWrite_pc,
    State.busWrite_clkTotal]
  rfl

theorem loadStep_of_peek (p : PostStep) (h : s.peek s.hl = some v) : loadStep p s =
    .next { s.afterRead s.hl with
      regs := { s.regs with a := v, h := hiByte (p.apply s.hl), l := loByte (p.apply s.hl) }
      pc := s.pc + 1
      clkTotal := s.clkTotal + 8 } := by
  rw [loadStep, finish_busRead_of_peek h, State.finish, State.setHL_pc, State.setHL_clkTotal, State.setHL,
    State.setReg_pc, State.setReg_clkTotal, State.setReg, State.afterRead_regs, State.afterRead_pc,
    State.afterRead_clkTotal]
  rfl

theorem loadStep_of_peek_none (p : PostStep) (h : s.peek s.hl = none) : loadStep p s =
    .next { s.afterRead s.hl with fault := some (.addressError s.hl.toNat) } :=
  finish_busRead_of_peek_none h _

end Sys2Proof.Machine

namespace Sys2Proof

/-! ## Encodings of the operand forms (30_encoding.md R155, R161, R162) -/

theorem encode_ld_reg (dst src : Reg8) : encode (Instr.ld (.reg dst) (.reg src)) = [opByte 1 dst.code src.code] := by
  cases dst <;> cases src <;> rfl

theorem encode_ld_reg_mem (r : Reg8) : encode (Instr.ld (.reg r) .indHL) = [opByte 1 r.code 6] := by cases r <;> rfl

theorem encode_ld_mem_reg (r : Reg8) : encode (Instr.ld .indHL (.reg r)) = [opByte 1 6 r.code] := by cases r <;> rfl

theorem encode_ldImm_reg (r : Reg8) (d8 : Byte) : encode (Instr.ldImm (.reg r) d8) = [opByte 0 r.code 6, d8] := by
  cases r <;> rfl

end Sys2Proof

open Sys2Proof Sys2Proof.Machine

/-- Settles O6: a copy and an immediate are one register write and the end of the instruction. -/
theorem loadsToARegister : Obligations.LoadsToARegister := by
  unfold Obligations.LoadsToARegister
  exact fun dst src d8 s =>
    ⟨encode_ld_reg dst src, encode_ldImm_reg dst d8, exec_ld_reg s dst src, exec_ldImm_reg s dst d8⟩

/-- Settles O7: each form is a load from its address, and the two high-page addresses always hold a byte. -/
theorem loadsFromMemory : Obligations.LoadsFromMemory := by
  unfold Obligations.LoadsFromMemory
  intro r a8 a16 v s faulted
  rw [← highPage_eq, ← highPage_eq]
  exact ⟨encode_ld_reg_mem r, rfl, rfl, rfl, rfl, rfl,
    fun h => (exec_ld_reg_mem s r).trans (loadFrom_of_peek r 1 8 h), loadFrom_of_peek .A 1 8, loadFrom_of_peek .A 1 8,
    loadFrom_of_peek .A 3 16,
    fun h => (exec_ld_reg_mem s r).trans (loadFrom_of_peek_none r 1 8 h), loadFrom_of_peek_none .A 1 8,
    loadFrom_of_peek_none .A 1 8, loadFrom_of_peek_none .A 3 16,
    s.peek_highPage_isSome a8, s.peek_highPage_isSome s.regs.c, loadFrom_highPage .A 2 12, loadFrom_highPage .A 1 8⟩

/-- Settles O8: each form is one bus write at its address and the end of the instruction. -/
theorem storesToMemory : Obligations.StoresToMemory := by
  unfold Obligations.StoresToMemory
  intro r d8 a8 a16 s
  rw [← highPage_eq, ← highPage_eq]
  exact ⟨encode_ld_mem_reg r, rfl, rfl, rfl, rfl, rfl, rfl,
    (exec_ld_mem_reg s r).trans (storeTo_eq s _ _ 1 8), storeTo_eq s _ _ 2 12, storeTo_eq s _ _ 1 8,
    storeTo_eq s _ _ 1 8, storeTo_eq s _ _ 3 16, storeTo_eq s _ _ 2 12, storeTo_eq s _ _ 1 8⟩

/-- Settles O9: both directions are one law in the step of the pointer, which is addition modulo 0x10000. -/
theorem loadsAndStoresThatStepHL : Obligations.LoadsAndStoresThatStepHL := by
  unfold Obligations.LoadsAndStoresThatStepHL
  intro v s up down
  have hup : up = PostStep.inc.apply s.hl := (PostStep.apply_inc s.hl).symm
  have hdown : down = PostStep.dec.apply s.hl := (PostStep.apply_dec s.hl).symm
  rw [hup, hdown]
  exact ⟨rfl, rfl, rfl, rfl, fun h => ⟨loadStep_of_peek_none .inc h, loadStep_of_peek_none .dec h⟩,
    storeStep_eq s .inc, storeStep_eq s .dec, loadStep_of_peek .inc, loadStep_of_peek .dec⟩

end

section
/-! SUPPORT. The 16-bit loads and the stack instructions (41_load16_stack.md R230-R237) and `ADD SP,e8` (43_alu16.md
R303): the offset to the stack pointer, and a push and a pop with each of their faults; then the settled obligations of
those rules. -/
namespace Sys2Proof

/-- A mask of `k` low bits takes the residue modulo `2 ^ k` (00_scope.md R6). -/
theorem toNat_and_lowMask {w : Nat} (x : BitVec w) {k : Nat} (h : k ≤ w) :
    (x &&& BitVec.ofNat w (2 ^ k - 1)).toNat = x.toNat % 2 ^ k := by
  have hmask : 2 ^ k - 1 < 2 ^ w := (Nat.sub_one_lt_of_lt (Nat.two_pow_pos k)).trans_le (Nat.pow_le_pow_right two_pos h)
  rw [BitVec.toNat_and, BitVec.toNat_ofNat, Nat.mod_eq_of_lt hmask, Nat.and_two_pow_sub_one_eq_mod]

theorem encode_push (qq : StackPair) : encode (Instr.push qq) = [opByte 3 (2 * qq.code) 5] := by cases qq <;> rfl

theorem encode_pop (qq : StackPair) : encode (Instr.pop qq) = [opByte 3 (2 * qq.code) 1] := by cases qq <;> rfl

end Sys2Proof

namespace Sys2Proof.Machine

variable {s t : State} {lo hi : Byte}

/-- The offset is signed in the sum, and the operand byte is unsigned in the carries (R233, R303). -/
theorem addSpOffset_eq (sp : Word) (e8 : Byte) : addSpOffset sp e8 =
    (BitVec.ofInt 16 ((sp.toNat : Int) + e8.toInt),
      { z := false
        n := false
        h := decide ((sp &&& 0x000F#16).toNat + (e8 &&& 0x0F#8).toNat > 0x0F)
        c := decide ((sp &&& 0x00FF#16).toNat + e8.toNat > 0xFF) }) := by
  have hnibble : (sp &&& 0x000F#16).toNat = sp.toNat % 0x10 := toNat_and_lowMask sp (k := 4) (by decide)
  have hoffset : (e8 &&& 0x0F#8).toNat = e8.toNat % 0x10 := toNat_and_lowMask e8 (k := 4) (by decide)
  have hbyte : (sp &&& 0x00FF#16).toNat = sp.toNat % 0x100 := toNat_and_lowMask sp (k := 8) (by decide)
  rw [addSpOffset, add_sext16, hnibble, hoffset, hbyte]

/-! ## `PUSH` (20_memory.md R130) -/

theorem exec_push_of_room (qq : StackPair) (h : 0x0002 ≤ s.sp.toNat) : exec (Instr.push qq) s =
    .next { (s.busWrite (s.sp - 1) (hiByte (s.stackPair qq))).busWrite (s.sp - 2) (loByte (s.stackPair qq)) with
      sp := s.sp - 2, pc := s.pc + 1, clkTotal := s.clkTotal + 16 } := by
  rw [exec_push, pushPair, State.push16_ok _ h, Access.finish, State.finish, State.setSp_pc, State.setSp_clkTotal,
    State.busWrite_pc, State.busWrite_pc, State.busWrite_clkTotal, State.busWrite_clkTotal]
  rfl

theorem exec_push_of_no_room (qq : StackPair) (h : s.sp.toNat < 0x0002) :
    exec (Instr.push qq) s = .next { s with fault := some (.stackError s.sp) } := by
  rw [exec_push, pushPair, State.push16_raised _ h]
  rfl

/-! ## `POP` (20_memory.md R131) -/

/-- A pop whose first byte lies past the ROM image ends at that byte. -/
theorem State.pop16_no_low (h : s.sp.toNat ≤ 0xFFFD) (hlo : s.peek s.sp = none) :
    s.pop16 = .raised ((s.afterRead s.sp).raise (.addressError s.sp.toNat)) := by
  rw [State.pop16, if_neg (by rw [Word.high_lt_iff]; omega), s.busRead_of_peek_none hlo]
  rfl

/-- A pop whose second byte lies past the ROM image ends there, after the side effect of both reads. -/
theorem State.pop16_no_high (h : s.sp.toNat ≤ 0xFFFD) (hlo : s.peek s.sp = some lo) (hhi : s.peek (s.sp + 1) = none) :
    s.pop16 =
      .raised (((s.afterRead s.sp).afterRead (s.sp + 1)).raise (.addressError (s.sp + 1).toNat)) := by
  have hnext : (s.afterRead s.sp).peek (s.sp + 1) = none := (s.peek_afterRead_succ s.sp).trans hhi
  rw [State.pop16, if_neg (by rw [Word.high_lt_iff]; omega), s.busRead_of_peek hlo, Access.andThen,
    State.busRead_of_peek_none _ hnext]
  rfl

/-- `POP` where the pop raises: the faulted state is the result. -/
theorem exec_pop_raised (qq : StackPair) (h : s.pop16 = .raised t) : exec (Instr.pop qq) s = .next t := by
  rw [exec_pop, popPair, h]
  rfl

/-- `POP` of two readable bytes: `sp`, `pc` and the clock move, and the rest is the write of the pair. -/
theorem exec_pop_of_peek (qq : StackPair) (h : s.sp.toNat ≤ 0xFFFD) (hlo : s.peek s.sp = some lo)
    (hhi : s.peek (s.sp + 1) = some hi) : exec (Instr.pop qq) s =
    .next { ((s.afterRead s.sp).afterRead (s.sp + 1)).setStackPair qq (wordOf hi lo) with
      sp := s.sp + 2, pc := s.pc + 1, clkTotal := s.clkTotal + 12 } := by
  rw [exec_pop_ok (State.pop16_ok h hlo hhi), State.finish, State.setStackPair_pc, State.setSp_pc, State.afterRead_pc,
    State.afterRead_pc, State.setStackPair_clkTotal, State.setSp_clkTotal, State.afterRead_clkTotal,
    State.afterRead_clkTotal]
  cases qq <;> rfl

end Sys2Proof.Machine

open Sys2Proof Sys2Proof.Machine

/-- Settles O11: a load of a pair is one write of the pair and the end of the instruction. -/
theorem loadsOfAPair : Obligations.LoadsOfAPair := by
  unfold Obligations.LoadsOfAPair
  exact fun d16 s =>
    ⟨rfl, rfl, rfl, rfl, rfl, exec_ldPair s .BC d16, exec_ldPair s .DE d16, exec_ldPair s .HL d16,
      exec_ldPair s .SP d16, rfl⟩

/-- Settles O12: both forms write the sum and the flags of the one offset addition. -/
theorem stackPointerPlusOffset : Obligations.StackPointerPlusOffset := by
  unfold Obligations.StackPointerPlusOffset
  intro e8 s res f
  have hsum : addSpOffset s.sp e8 = (res, f) := addSpOffset_eq s.sp e8
  have hload : exec (.ld_HL_SPe8 e8) s =
      .next (((s.setHL (addSpOffset s.sp e8).1).setFlags (addSpOffset s.sp e8).2).finish 2 12) := rfl
  have hadd : exec (.add_SP_e8 e8) s =
      .next (((s.setSp (addSpOffset s.sp e8).1).setFlags (addSpOffset s.sp e8).2).finish 2 16) := rfl
  rw [hload, hadd, hsum]
  exact ⟨rfl, rfl, rfl, rfl⟩

/-- Settles O13: the test for 0xFFFF comes before the two writes. -/
theorem storeOfTheStackPointer : Obligations.StoreOfTheStackPointer := by
  unfold Obligations.StoreOfTheStackPointer
  intro a16 s
  have hexec : exec (.ld_ind_a16_SP a16) s = storeSp a16 s := rfl
  rw [hexec, storeSp]
  refine ⟨rfl, fun h => ?stores, fun h => ?faults⟩
  case stores =>
    rw [if_neg h, State.finish, State.busWrite_pc, State.busWrite_pc, State.busWrite_clkTotal, State.busWrite_clkTotal]
    rfl
  case faults =>
    rw [if_pos h]
    rfl

/-- Settles O14: the pushed word is the pair, and `sp` decides between the two outcomes of a push. -/
theorem pushStoresAPair : Obligations.PushStoresAPair := by
  unfold Obligations.PushStoresAPair
  intro qq s v
  have hv : v = s.stackPair qq := by cases qq <;> rfl
  rw [hv]
  exact ⟨encode_push qq, exec_push_of_room qq, exec_push_of_no_room qq⟩

/-- Settles O15: a pop completes or raises one of three faults, and each pair then takes the two bytes. -/
theorem popLoadsAPair : Obligations.PopLoadsAPair := by
  unfold Obligations.PopLoadsAPair
  intro lo hi s u
  refine ⟨encode_pop, fun hsp hlo hhi => ?completes, fun qq hsp => ?above, fun qq hsp hlo => ?noLow,
    fun qq hsp hlo hhi => ?noHigh⟩
  case completes =>
    have hregs : u.regs = s.regs := by rw [State.afterRead_regs, State.afterRead_regs]
    have hpop (qq : StackPair) : exec (Instr.pop qq) s = .next { u.setStackPair qq (wordOf hi lo) with
        sp := s.sp + 2, pc := s.pc + 1, clkTotal := s.clkTotal + 12 } := exec_pop_of_peek qq hsp hlo hhi
    refine ⟨(hpop .BC).trans ?_, (hpop .DE).trans ?_, (hpop .HL).trans ?_, (hpop .AF).trans ?_⟩
    · rw [State.setStackPair, State.setBC, hiByte_wordOf, loByte_wordOf, hregs]
    · rw [State.setStackPair, State.setDE, hiByte_wordOf, loByte_wordOf, hregs]
    · rw [State.setStackPair, State.setHL, hiByte_wordOf, loByte_wordOf, hregs]
    · rw [State.setStackPair, State.setAF, hiByte_wordOf, loByte_wordOf, hregs, Flags.unpack]
  case above => exact exec_pop_raised qq (State.pop16_raised hsp)
  case noLow => exact exec_pop_raised qq (State.pop16_no_low hsp hlo)
  case noHigh => exact exec_pop_raised qq (State.pop16_no_high hsp hlo hhi)

end

section
/-! SUPPORT. The 8-bit arithmetic (42_alu8.md R250-R285): the arithmetic functions with their flags, then what each
shared operation leaves, as one record update of the state before; then the settled obligations of those rules. -/
namespace Sys2Proof

/-! ## Encodings of the operand forms (30_encoding.md R161, R163, R164) -/

theorem encode_alu_reg (op : AluOp) (r : Reg8) : encode (Instr.alu op (.reg r)) = [opByte 2 op.code r.code] := by
  cases op <;> cases r <;> rfl

theorem encode_alu_mem (op : AluOp) : encode (Instr.alu op .indHL) = [opByte 2 op.code 6] := by cases op <;> rfl

theorem encode_aluImm (op : AluOp) (d8 : Byte) : encode (Instr.aluImm op d8) = [opByte 3 op.code 6, d8] := by
  cases op <;> rfl

theorem encode_inc_reg (r : Reg8) : encode (Instr.inc (.reg r)) = [opByte 0 r.code 4] := by cases r <;> rfl

theorem encode_dec_reg (r : Reg8) : encode (Instr.dec (.reg r)) = [opByte 0 r.code 5] := by cases r <;> rfl

theorem lowNibble_toNat (v : Byte) : (v &&& 0x0F#8).toNat = v.toNat % 16 := toNat_and_lowMask v (k := 4) (by decide)

end Sys2Proof

namespace Sys2Proof.Machine

variable {s : State}

/-! ## Add and subtract as integer arithmetic (R250, R251) -/

theorem add8_toNat (a b : Byte) (cin : Bool) : (add8 a b cin).1.toNat = (a.toNat + b.toNat + cin.toNat) % 0x100 :=
  BitVec.toNat_ofNat _ 8

theorem sub8_toNat (a b : Byte) (cin : Bool) :
    ((sub8 a b cin).1.toNat : Int) = ((a.toNat : Int) - b.toNat - cin.toNat) % 0x100 := by
  have hnonneg : 0 ≤ ((a.toNat : Int) - b.toNat - cin.toNat) % 0x100 := Int.emod_nonneg _ (by decide)
  exact (congrArg Int.ofNat (BitVec.toNat_ofInt _)).trans (Int.toNat_of_nonneg hnonneg)

/-- The half carry is the carry out of bit 3 of the three-operand sum (R250). -/
theorem add8_flags (a b : Byte) (cin : Bool) : (add8 a b cin).2 =
    { z := decide ((a.toNat + b.toNat + cin.toNat) % 0x100 = 0)
      n := false
      h := decide ((a &&& 0x0F#8).toNat + (b &&& 0x0F#8).toNat + cin.toNat > 0x0F)
      c := decide (a.toNat + b.toNat + cin.toNat > 0xFF) } := by
  have hzero : (add8 a b cin).1 = 0#8 ↔ (a.toNat + b.toNat + cin.toNat) % 0x100 = 0 := by
    rw [← BitVec.toNat_inj, add8_toNat]; rfl
  rw [lowNibble_toNat, lowNibble_toNat, ← decide_eq_decide.2 hzero]
  rfl

/-- The half borrow counts the incoming carry (R251). -/
theorem sub8_flags (a b : Byte) (cin : Bool) : (sub8 a b cin).2 =
    { z := decide (((a.toNat : Int) - b.toNat - cin.toNat) % 0x100 = 0)
      n := true
      h := decide ((a &&& 0x0F#8).toNat < (b &&& 0x0F#8).toNat + cin.toNat)
      c := decide (a.toNat < b.toNat + cin.toNat) } := by
  have hzero : (sub8 a b cin).1 = 0#8 ↔ ((a.toNat : Int) - b.toNat - cin.toNat) % 0x100 = 0 := by
    rw [← BitVec.toNat_inj, ← sub8_toNat]; exact Int.natCast_eq_zero.symm
  rw [lowNibble_toNat, lowNibble_toNat, ← decide_eq_decide.2 hzero]
  rfl

/-! ## Increment and decrement (R278, R280) -/

theorem inc8_eq (v : Byte) (f : Flags) : inc8 v f =
    (BitVec.ofNat 8 ((v.toNat + 1) % 0x100),
      { z := decide (v = 0xFF#8), n := false, h := decide (v &&& 0x0F#8 = 0x0F#8), c := f.c }) := by
  have hres : v + 1#8 = BitVec.ofNat 8 ((v.toNat + 1) % 0x100) := by
    apply BitVec.eq_of_toNat_eq
    simp [BitVec.toNat_add]
  have hzero : v + 1#8 = 0#8 ↔ v = 0xFF#8 := by bv_omega
  have hhalf : v.toNat % 16 = 0x0F ↔ v &&& 0x0F#8 = 0x0F#8 := by rw [← BitVec.toNat_inj, lowNibble_toNat]; rfl
  rw [inc8, decide_eq_decide.2 hzero, decide_eq_decide.2 hhalf, hres]

theorem dec8_eq (v : Byte) (f : Flags) : dec8 v f =
    (BitVec.ofNat 8 ((v.toNat + 0xFF) % 0x100),
      { z := decide (v = 0x01#8), n := true, h := decide (v &&& 0x0F#8 = 0x00#8), c := f.c }) := by
  have hres : v - 1#8 = BitVec.ofNat 8 ((v.toNat + 0xFF) % 0x100) := by
    apply BitVec.eq_of_toNat_eq
    simp [BitVec.toNat_sub, Nat.add_comm]
  have hzero : v - 1#8 = 0#8 ↔ v = 0x01#8 := by bv_omega
  have hhalf : v.toNat % 16 = 0x00 ↔ v &&& 0x0F#8 = 0x00#8 := by rw [← BitVec.toNat_inj, lowNibble_toNat]; rfl
  rw [dec8, decide_eq_decide.2 hzero, decide_eq_decide.2 hhalf, hres]

/-! ## `DAA` (R282) -/

/-- `DAA` adjusts the low digit: after a carry out of it, or in the addition branch a digit above 9. -/
def daaLow (a : Byte) (f : Flags) : Bool := f.h || (!f.n && decide (a.toNat % 16 > 0x09))

/-- `DAA` adjusts the high digit, which is also the carry it leaves. -/
def daaHigh (a : Byte) (f : Flags) : Bool := f.c || (!f.n && decide (a.toNat > 0x99))

/-- Both branches of the rule add the same two corrections; the tests of `A` belong to the addition branch alone. -/
theorem daaAdjust_eq (a : Byte) (f : Flags) : daaAdjust a f =
    ((if daaLow a f = true then 0x06 else 0) + (if daaHigh a f = true then 0x60 else 0), daaHigh a f) := by
  unfold daaAdjust daaLow daaHigh
  cases f.n with
  | false => rfl
  | true => simp only [Bool.not_true, Bool.false_and, Bool.or_false, Bool.true_eq_false, if_false]

/-- The adjustment of the rule as a byte. -/
def daaByte (a : Byte) (f : Flags) : Byte :=
  (if daaLow a f = true then 0x06#8 else 0x00#8) + (if daaHigh a f = true then 0x60#8 else 0x00#8)

theorem ofNat_daaAdjust (a : Byte) (f : Flags) : BitVec.ofNat 8 (daaAdjust a f).1 = daaByte a f := by
  rw [daaAdjust_eq, daaByte]
  cases daaLow a f <;> cases daaHigh a f <;> rfl

theorem daa8_of_add {a : Byte} {f : Flags} (h : f.n = false) : daa8 a f =
    (a + daaByte a f, { z := decide (a + daaByte a f = 0#8), n := false, h := false, c := daaHigh a f }) := by
  rw [daa8, if_pos h, ofNat_daaAdjust, daaAdjust_eq, h]

theorem daa8_of_sub {a : Byte} {f : Flags} (h : f.n = true) : daa8 a f =
    (a - daaByte a f, { z := decide (a - daaByte a f = 0#8), n := true, h := false, c := daaHigh a f }) := by
  have hn : ¬ f.n = false := by rw [h]; decide
  rw [daa8, if_neg hn, ofNat_daaAdjust, daaAdjust_eq, h]

/-- After an addition the high digit is adjusted exactly where the exact sum of the bytes is above 0x99. -/
theorem daaHigh_add8 (a b : Byte) (cin : Bool) :
    daaHigh (add8 a b cin).1 (add8 a b cin).2 = decide (a.toNat + b.toNat + cin.toNat > 0x99) := by
  rw [daaHigh, add8_toNat, add8_flags, Bool.not_false, Bool.true_and, ← Bool.decide_or, decide_eq_decide]
  omega

theorem daaByte_toNat (a : Byte) (f : Flags) : (daaByte a f).toNat =
    (if daaLow a f = true then 0x06 else 0) + (if daaHigh a f = true then 0x60 else 0) := by
  rw [daaByte]
  cases daaLow a f <;> cases daaHigh a f <;> rfl

/-! ## Packed decimal (R282's opening words) -/

/-- The packed decimal byte of a number below 100: its two decimal digits, one to a nibble. -/
def packedDecimal (n : Nat) : Byte := BitVec.ofNat 8 (n / 10 * 0x10 + n % 10)

theorem packedDecimal_toNat {n : Nat} (h : n < 100) : (packedDecimal n).toNat = n / 10 * 0x10 + n % 10 :=
  (BitVec.toNat_ofNat _ 8).trans (Nat.mod_eq_of_lt (by omega))

theorem packedDecimal_eq_zero_iff {n : Nat} (h : n < 100) : packedDecimal n = 0#8 ↔ n = 0 := by
  rw [← BitVec.toNat_inj, packedDecimal_toNat h, BitVec.toNat_ofNat]
  omega

section
variable {x y : Nat} (hx : x < 100) (hy : y < 100) (cin : Bool)
include hx hy

/-- After an addition the low digit is adjusted exactly where the sum of the low digits carries. -/
theorem daaLow_add8_packedDecimal : daaLow (add8 (packedDecimal x) (packedDecimal y) cin).1
    (add8 (packedDecimal x) (packedDecimal y) cin).2 = decide (10 ≤ x % 10 + y % 10 + cin.toNat) := by
  have hc := cin.toNat_le
  rw [daaLow, add8_toNat, add8_flags, lowNibble_toNat, lowNibble_toNat, packedDecimal_toNat hx, packedDecimal_toNat hy,
    Bool.not_false, Bool.true_and, ← Bool.decide_or, decide_eq_decide]
  omega

/-- After an addition the high digit is adjusted exactly where the decimal sum carries. -/
theorem daaHigh_add8_packedDecimal : daaHigh (add8 (packedDecimal x) (packedDecimal y) cin).1
    (add8 (packedDecimal x) (packedDecimal y) cin).2 = decide (x + y + cin.toNat ≥ 100) := by
  have hc := cin.toNat_le
  rw [daaHigh_add8, packedDecimal_toNat hx, packedDecimal_toNat hy, decide_eq_decide]
  omega

/-- After a subtraction the low digit is adjusted exactly where the difference of the low digits borrows. -/
theorem daaLow_sub8_packedDecimal : daaLow (sub8 (packedDecimal x) (packedDecimal y) cin).1
    (sub8 (packedDecimal x) (packedDecimal y) cin).2 = decide (x % 10 < y % 10 + cin.toNat) := by
  rw [daaLow, sub8_flags, lowNibble_toNat, lowNibble_toNat, packedDecimal_toNat hx, packedDecimal_toNat hy,
    Bool.not_true, Bool.false_and, Bool.or_false, decide_eq_decide]
  omega

/-- After a subtraction the high digit is adjusted exactly where the decimal difference borrows. -/
theorem daaHigh_sub8_packedDecimal : daaHigh (sub8 (packedDecimal x) (packedDecimal y) cin).1
    (sub8 (packedDecimal x) (packedDecimal y) cin).2 = decide (x < y + cin.toNat) := by
  have hc := cin.toNat_le
  rw [daaHigh, sub8_flags, packedDecimal_toNat hx, packedDecimal_toNat hy, Bool.not_true, Bool.false_and, Bool.or_false,
    decide_eq_decide]
  omega

/-- The binary sum and the adjustment make the decimal sum. -/
theorem add8_add_daaByte : (add8 (packedDecimal x) (packedDecimal y) cin).1 +
    daaByte (add8 (packedDecimal x) (packedDecimal y) cin).1 (add8 (packedDecimal x) (packedDecimal y) cin).2 =
    packedDecimal ((x + y + cin.toNat) % 100) := by
  have hc := cin.toNat_le
  have hsum := add8_toNat (packedDecimal x) (packedDecimal y) cin
  have hadj := daaByte_toNat (add8 (packedDecimal x) (packedDecimal y) cin).1
    (add8 (packedDecimal x) (packedDecimal y) cin).2
  rw [packedDecimal_toNat hx, packedDecimal_toNat hy] at hsum
  simp only [daaLow_add8_packedDecimal hx hy, daaHigh_add8_packedDecimal hx hy, decide_eq_true_eq] at hadj
  apply BitVec.eq_of_toNat_eq
  rw [BitVec.toNat_add, hsum, hadj, packedDecimal_toNat (Nat.mod_lt _ (by decide))]
  split <;> split <;> omega

/-- The binary difference less the adjustment makes the decimal difference. -/
theorem sub8_sub_daaByte : (sub8 (packedDecimal x) (packedDecimal y) cin).1 -
    daaByte (sub8 (packedDecimal x) (packedDecimal y) cin).1 (sub8 (packedDecimal x) (packedDecimal y) cin).2 =
    packedDecimal ((x + 200 - y - cin.toNat) % 100) := by
  have hc := cin.toNat_le
  have hdiff := sub8_toNat (packedDecimal x) (packedDecimal y) cin
  have hadj := daaByte_toNat (sub8 (packedDecimal x) (packedDecimal y) cin).1
    (sub8 (packedDecimal x) (packedDecimal y) cin).2
  rw [packedDecimal_toNat hx, packedDecimal_toNat hy] at hdiff
  simp only [daaLow_sub8_packedDecimal hx hy, daaHigh_sub8_packedDecimal hx hy, decide_eq_true_eq] at hadj
  apply BitVec.eq_of_toNat_eq
  rw [BitVec.toNat_sub, hadj, packedDecimal_toNat (Nat.mod_lt _ (by decide))]
  split <;> split <;> omega

theorem daa8_add8_packedDecimal : daa8 (add8 (packedDecimal x) (packedDecimal y) cin).1
    (add8 (packedDecimal x) (packedDecimal y) cin).2 =
    (packedDecimal ((x + y + cin.toNat) % 100),
      { z := decide ((x + y + cin.toNat) % 100 = 0)
        n := false
        h := false
        c := decide (x + y + cin.toNat ≥ 100) }) := by
  rw [daa8_of_add rfl, add8_add_daaByte hx hy, daaHigh_add8_packedDecimal hx hy,
    decide_eq_decide.2 (packedDecimal_eq_zero_iff (Nat.mod_lt _ (by decide)))]

theorem daa8_sub8_packedDecimal : daa8 (sub8 (packedDecimal x) (packedDecimal y) cin).1
    (sub8 (packedDecimal x) (packedDecimal y) cin).2 =
    (packedDecimal ((x + 200 - y - cin.toNat) % 100),
      { z := decide ((x + 200 - y - cin.toNat) % 100 = 0)
        n := true
        h := false
        c := decide (x < y + cin.toNat) }) := by
  rw [daa8_of_sub rfl, sub8_sub_daaByte hx hy, daaHigh_sub8_packedDecimal hx hy,
    decide_eq_decide.2 (packedDecimal_eq_zero_iff (Nat.mod_lt _ (by decide)))]

end

/-! ## What the shared operations leave (R253, R278-R285) -/

/-- An ALU operation and the end of the instruction, in one update. -/
theorem State.finish_applyAlu (s : State) (op : AluOp) (v : Byte) (len n : Nat) : (s.applyAlu op v).finish len n =
    { s with
      regs := if op = .cp then s.regs else { s.regs with a := (alu8 op s.regs.a v s.flags.c).1 }
      flags := (alu8 op s.regs.a v s.flags.c).2
      pc := s.pc + BitVec.ofNat 16 len
      clkTotal := s.clkTotal + n } := by
  rw [s.applyAlu_eq op v]
  rfl

theorem aluMem_of_peek (op : AluOp) {v : Byte} (h : s.peek s.hl = some v) : aluMem op s =
    .next { s.afterRead s.hl with
      regs := if op = .cp then s.regs else { s.regs with a := (alu8 op s.regs.a v s.flags.c).1 }
      flags := (alu8 op s.regs.a v s.flags.c).2
      pc := s.pc + 1
      clkTotal := s.clkTotal + 8 } := by
  rw [aluMem, finish_busRead_of_peek h, State.finish_applyAlu, State.afterRead_regs, State.afterRead_flags,
    State.afterRead_pc, State.afterRead_clkTotal]
  rfl

/-- One read and then one write of the same address, with a byte and flags that are a function of the byte read. -/
theorem readModifyWrite_of_peek {a : Word} {v : Byte} (g : Byte → Byte × Flags) (len n : Nat)
    (h : s.peek a = some v) :
    (s.busRead a).finish (fun x t => ((t.busWrite a (g x).1).setFlags (g x).2).finish len n) =
      .next { (s.afterRead a).busWrite a (g v).1 with
        flags := (g v).2, pc := s.pc + BitVec.ofNat 16 len, clkTotal := s.clkTotal + n } := by
  rw [finish_busRead_of_peek h, State.finish, State.setFlags_pc, State.setFlags_clkTotal, State.busWrite_pc,
    State.busWrite_clkTotal, State.afterRead_pc, State.afterRead_clkTotal]
  rfl

end Sys2Proof.Machine

open Sys2Proof Sys2Proof.Machine

/-- Settles O20: sums and differences are read off as integers; the logical functions are their definitions. -/
theorem aluFunctions : Obligations.AluFunctions := by
  unfold Obligations.AluFunctions
  exact fun a b cin =>
    ⟨⟨add8_toNat a b cin, add8_flags a b cin⟩, ⟨sub8_toNat a b cin, sub8_flags a b cin⟩, rfl, rfl, rfl⟩

/-- Settles O23: `DAA` adjusts each digit exactly where the decimal operation carries or borrows out of it. -/
theorem decimalAdjustCorrectsPackedDecimal : Obligations.DecimalAdjustCorrectsPackedDecimal := by
  unfold Obligations.DecimalAdjustCorrectsPackedDecimal
  exact fun x y cin hx hy => ⟨daa8_add8_packedDecimal hx hy cin, daa8_sub8_packedDecimal hx hy cin⟩

/-- Settles O17: the operation's function of `A` and the register, then the end of the instruction. -/
theorem aluOnRegister : Obligations.AluOnRegister := by
  unfold Obligations.AluOnRegister
  intro op r s f
  have hf : f = alu8 op s.regs.a (s.regs.get r) s.flags.c := by cases op <;> rfl
  rw [hf, exec_alu_reg, aluReg, State.finish_applyAlu]
  exact ⟨encode_alu_reg op r, rfl⟩

/-- Settles O18: the operation's function of `A` and the immediate byte, then the end of the instruction. -/
theorem aluOnImmediate : Obligations.AluOnImmediate := by
  unfold Obligations.AluOnImmediate
  intro op d8 s f
  have hf : f = alu8 op s.regs.a d8 s.flags.c := by cases op <;> rfl
  rw [hf, exec_aluImm, aluImm, State.finish_applyAlu]
  exact ⟨encode_aluImm op d8, rfl⟩

/-- Settles O19: the read decides between the fault and the operation on the byte it finds. -/
theorem aluOnMemory : Obligations.AluOnMemory := by
  unfold Obligations.AluOnMemory
  intro op v s f
  have hf : f = alu8 op s.regs.a v s.flags.c := by cases op <;> rfl
  rw [hf, exec_alu_mem]
  exact ⟨encode_alu_mem op, fun h => finish_busRead_of_peek_none h _, aluMem_of_peek op⟩

/-- Settles O21: the register and the memory forms write the result and the flags of the same two functions. -/
theorem incrementAndDecrement : Obligations.IncrementAndDecrement := by
  unfold Obligations.IncrementAndDecrement
  intro r v s fInc fDec
  have hinc (x : Byte) : inc8 x s.flags = (BitVec.ofNat 8 ((x.toNat + 1) % 0x100), fInc x) := inc8_eq x s.flags
  have hdec (x : Byte) : dec8 x s.flags = (BitVec.ofNat 8 ((x.toNat + 0xFF) % 0x100), fDec x) := dec8_eq x s.flags
  refine ⟨encode_inc_reg r, encode_dec_reg r, rfl, rfl, fun h => ⟨finish_busRead_of_peek_none h _,
    finish_busRead_of_peek_none h _⟩, ?incReg, ?decReg, fun h => ?incMem, fun h => ?decMem⟩
  case incReg =>
    rw [exec_inc_reg, incReg, State.reg, hinc]
    rfl
  case decReg =>
    rw [exec_dec_reg, decReg, State.reg, hdec]
    rfl
  case incMem => exact (readModifyWrite_of_peek (inc8 · s.flags) 1 12 h).trans (by rw [hinc]; rfl)
  case decMem => exact (readModifyWrite_of_peek (dec8 · s.flags) 1 12 h).trans (by rw [hdec]; rfl)

/-- Settles O22: the tests and the adjustment of `DAA` are one form for both branches, and `N` chooses the sign. -/
theorem adjustAndComplement : Obligations.AdjustAndComplement := by
  unfold Obligations.AdjustAndComplement
  intro s a low high adj res
  have hlow : daaLow a s.flags = low := by rw [daaLow, ← lowNibble_toNat]
  have hadj : daaByte a s.flags = adj := by rw [daaByte, hlow]; rfl
  have hdaa : daa8 a s.flags = (res, { z := decide (res = 0x00#8), n := s.flags.n, h := false, c := high }) := by
    cases hn : s.flags.n with
    | false =>
      have hres : a + daaByte a s.flags = res := by rw [hadj]; exact (if_neg (by rw [hn]; decide)).symm
      rw [daa8_of_add hn, hres]
      rfl
    | true =>
      have hres : a - daaByte a s.flags = res := by rw [hadj]; exact (if_pos hn).symm
      rw [daa8_of_sub hn, hres]
      rfl
  have hexec : exec .daa s = .next (((s.setReg .A (daa8 a s.flags).1).setFlags (daa8 a s.flags).2).finish 1 4) := rfl
  rw [hexec, hdaa]
  exact ⟨rfl, rfl, rfl, rfl, rfl, rfl, rfl, rfl⟩

end

section
/-! SUPPORT. The 16-bit arithmetic (43_alu16.md R300-R302): the sum and the steps of a pair as integer arithmetic modulo
0x10000; then the settled obligations of those rules. -/
namespace Sys2Proof.Machine

/-- The half carry is the carry out of bit 11 of the sum of the low twelve bits (R300). -/
theorem add16_eq (a b : Word) (f : Flags) : add16 a b f =
    (BitVec.ofNat 16 ((a.toNat + b.toNat) % 0x10000),
      { z := f.z
        n := false
        h := decide ((a &&& 0x0FFF#16).toNat + (b &&& 0x0FFF#16).toNat > 0x0FFF)
        c := decide (a.toNat + b.toNat > 0xFFFF) }) := by
  have hmask (v : Word) : (v &&& 0x0FFF#16).toNat = v.toNat % 0x1000 := toNat_and_lowMask v (k := 12) (by decide)
  have hsum : BitVec.ofNat 16 (a.toNat + b.toNat) = BitVec.ofNat 16 ((a.toNat + b.toNat) % 0x10000) :=
    BitVec.eq_of_toNat_eq (by rw [BitVec.toNat_ofNat, BitVec.toNat_ofNat, Nat.mod_mod])
  rw [add16, hsum, hmask, hmask]

/-- `INC rr` steps a pair as the post-increment of R215 steps `HL`. -/
theorem incPair_eq (rr : Pair) (s : State) : incPair rr s =
    .next ((s.setPair rr (BitVec.ofNat 16 (((s.pair rr).toNat + 1) % 0x10000))).finish 1 8) := by
  rw [← PostStep.apply_inc]
  rfl

/-- `DEC rr` steps a pair as the post-decrement of R217 steps `HL`. -/
theorem decPair_eq (rr : Pair) (s : State) : decPair rr s =
    .next ((s.setPair rr (BitVec.ofNat 16 (((s.pair rr).toNat + 0xFFFF) % 0x10000))).finish 1 8) := by
  rw [← PostStep.apply_dec]
  rfl

end Sys2Proof.Machine

open Sys2Proof Sys2Proof.Machine

/-- Settles O24: the four forms write the sum and the flags of the one 16-bit addition of their pair. -/
theorem addToHL : Obligations.AddToHL := by
  unfold Obligations.AddToHL
  intro s result
  have hadd (rr : Pair) : exec (Instr.addHL rr) s = .next (result (s.pair rr)) := by
    rw [exec_addHL, Sys2Proof.Machine.addToHL, add16_eq]
    rfl
  exact ⟨rfl, rfl, rfl, rfl, hadd .BC, hadd .DE, hadd .HL, hadd .SP⟩

/-- Settles O25: each form writes the stepped pair and ends the instruction. -/
theorem incrementAndDecrementOfAPair : Obligations.IncrementAndDecrementOfAPair := by
  unfold Obligations.IncrementAndDecrementOfAPair
  intro s up down
  have hinc (rr : Pair) : exec (Instr.incPair rr) s = .next ((s.setPair rr (up (s.pair rr))).finish 1 8) := by
    rw [exec_incPair, incPair_eq]
  have hdec (rr : Pair) : exec (Instr.decPair rr) s = .next ((s.setPair rr (down (s.pair rr))).finish 1 8) := by
    rw [exec_decPair, decPair_eq]
  -- What is left compares record updates; the arithmetic of the two steps plays no part in it.
  clear_value up down
  exact ⟨rfl, rfl, rfl, rfl, rfl, rfl, rfl, rfl, hinc .BC, hinc .DE, hinc .HL, hinc .SP, hdec .BC, hdec .DE, hdec .HL,
    hdec .SP⟩

end

section
/-! SUPPORT. The rotates, shifts and bit instructions (44_rotate_shift_bit.md R310-R336): the shifter functions as
rotations and concatenations, the bits of `RES` and `SET`, what each shared operation leaves; then the settled
obligations of those rules. -/
namespace Sys2Proof

/-! ## Encodings of the operand forms of the `CB` table (30_encoding.md R165) -/

theorem encode_shift_reg (op : ShiftOp) (r : Reg8) : encode (Instr.shift op (.reg r)) =
    [0xCB#8, opByte 0 op.code r.code] := by
  cases op <;> cases r <;> rfl

theorem encode_shift_mem (op : ShiftOp) : encode (Instr.shift op .indHL) = [0xCB#8, opByte 0 op.code 6] := by
  cases op <;> rfl

theorem encode_bit_reg (b : Fin 8) (r : Reg8) : encode (Instr.bit b (.reg r)) = [0xCB#8, opByte 1 b.val r.code] := by
  fin_cases b <;> cases r <;> rfl

theorem encode_bit_mem (b : Fin 8) : encode (Instr.bit b .indHL) = [0xCB#8, opByte 1 b.val 6] := by
  fin_cases b <;> rfl

theorem encode_res_reg (b : Fin 8) (r : Reg8) : encode (Instr.res b (.reg r)) = [0xCB#8, opByte 2 b.val r.code] := by
  fin_cases b <;> cases r <;> rfl

theorem encode_res_mem (b : Fin 8) : encode (Instr.res b .indHL) = [0xCB#8, opByte 2 b.val 6] := by
  fin_cases b <;> rfl

theorem encode_set_reg (b : Fin 8) (r : Reg8) : encode (Instr.set b (.reg r)) = [0xCB#8, opByte 3 b.val r.code] := by
  fin_cases b <;> cases r <;> rfl

theorem encode_set_mem (b : Fin 8) : encode (Instr.set b .indHL) = [0xCB#8, opByte 3 b.val 6] := by
  fin_cases b <;> rfl

end Sys2Proof

namespace Sys2Proof.Machine

/-! ## The shifter functions (R314): a byte moved by one place beside the bit that enters -/

section
variable (v : Byte) (b : Bool)

theorem shiftLeft_or_bit0 : v <<< 1 ||| bit0 b = v.extractLsb' 0 7 ++ BitVec.ofBool b := by
  refine BitVec.eq_of_getLsbD_eq fun i hi => ?_
  rw [BitVec.getLsbD_append]
  cases b <;> interval_cases i <;> simp [bit0]

theorem shiftRight_or_bit7 : v >>> 1 ||| bit7 b = BitVec.ofBool b ++ v.extractLsb' 1 7 := by
  refine BitVec.eq_of_getLsbD_eq fun i hi => ?_
  rw [BitVec.getLsbD_append]
  cases b <;> interval_cases i <;> simp [bit7]

theorem rotateLeft_one : v.rotateLeft 1 = v.extractLsb' 0 7 ++ BitVec.ofBool (v.getLsbD 7) := by
  refine BitVec.eq_of_getLsbD_eq fun i hi => ?_
  rw [BitVec.getLsbD_append]
  interval_cases i <;> simp

theorem rotateRight_one : v.rotateRight 1 = BitVec.ofBool (v.getLsbD 0) ++ v.extractLsb' 1 7 := by
  refine BitVec.eq_of_getLsbD_eq fun i hi => ?_
  rw [BitVec.getLsbD_append]
  interval_cases i <;> simp

theorem sshiftRight_one : v.sshiftRight 1 = BitVec.ofBool (v.getLsbD 7) ++ v.extractLsb' 1 7 := by
  refine BitVec.eq_of_getLsbD_eq fun i hi => ?_
  rw [BitVec.getLsbD_append]
  interval_cases i <;> simp [BitVec.getElem_sshiftRight, BitVec.msb_eq_getLsbD_last]

theorem swapNibbles : (v &&& 0x0F#8) <<< 4 ||| v >>> 4 = v.extractLsb' 0 4 ++ v.extractLsb' 4 4 := by
  refine BitVec.eq_of_getLsbD_eq fun i hi => ?_
  rw [BitVec.getLsbD_append]
  interval_cases i <;> simp

theorem and_0x80 : v &&& 0x80#8 = bit7 (v.getLsbD 7) := BitVec.and_twoPow v 7

theorem shift8_rlc (cin : Bool) : shift8 .rlc v cin = (v.rotateLeft 1, v.getLsbD 7) := by
  rw [shift8, shiftLeft_or_bit0, rotateLeft_one]

theorem shift8_rrc (cin : Bool) : shift8 .rrc v cin = (v.rotateRight 1, v.getLsbD 0) := by
  rw [shift8, shiftRight_or_bit7, rotateRight_one]

theorem shift8_rl (cin : Bool) : shift8 .rl v cin = (v.extractLsb' 0 7 ++ BitVec.ofBool cin, v.getLsbD 7) := by
  rw [shift8, shiftLeft_or_bit0]

theorem shift8_rr (cin : Bool) : shift8 .rr v cin = (BitVec.ofBool cin ++ v.extractLsb' 1 7, v.getLsbD 0) := by
  rw [shift8, shiftRight_or_bit7]

/-- `SLA` is `RL` with a zero coming in. -/
theorem shift8_sla (cin : Bool) : shift8 .sla v cin = (v.extractLsb' 0 7 ++ 0#1, v.getLsbD 7) := by
  have hzero : v <<< 1 = v <<< 1 ||| bit0 false := BitVec.or_zero.symm
  rw [shift8, hzero, shiftLeft_or_bit0]
  rfl

/-- `SRA` keeps bit 7: the bit that enters is the old one. -/
theorem shift8_sra (cin : Bool) : shift8 .sra v cin = (v.sshiftRight 1, v.getLsbD 0) := by
  rw [shift8, and_0x80, shiftRight_or_bit7, sshiftRight_one]

theorem shift8_swap (cin : Bool) : shift8 .swap v cin = (v.extractLsb' 0 4 ++ v.extractLsb' 4 4, false) := by
  rw [shift8, swapNibbles]

/-- `SRL` is `RR` with a zero coming in. -/
theorem shift8_srl (cin : Bool) : shift8 .srl v cin = (0#1 ++ v.extractLsb' 1 7, v.getLsbD 0) := by
  have hzero : v >>> 1 = v >>> 1 ||| bit7 false := BitVec.or_zero.symm
  rw [shift8, hzero, shiftRight_or_bit7]
  rfl

end

/-! ## The bits of `RES` and `SET` (R333, R335) -/

theorem getLsbD_bitMask (b : Fin 8) (i : Nat) : (1#8 <<< b.val).getLsbD i = decide (i = b.val) := by
  rw [← BitVec.twoPow_eq, BitVec.getLsbD_twoPow, decide_eq_true b.isLt, Bool.true_and, decide_eq_decide]
  exact eq_comm

theorem getLsbD_resBit (b : Fin 8) (v : Byte) {i : Nat} (hi : i < 8) :
    (resBit b v).getLsbD i = if i = b.val then false else v.getLsbD i := by
  have hones : (0xFF#8).getLsbD i = true := by interval_cases i <;> rfl
  rw [resBit, BitVec.getLsbD_and, BitVec.getLsbD_xor, getLsbD_bitMask, hones]
  by_cases h : i = b.val <;> simp [h]

theorem getLsbD_setBit (b : Fin 8) (v : Byte) (i : Nat) :
    (setBit b v).getLsbD i = if i = b.val then true else v.getLsbD i := by
  rw [setBit, BitVec.getLsbD_or, getLsbD_bitMask]
  by_cases h : i = b.val <;> simp [h]

/-! ## What the shared operations leave (R314, R331-R336) -/

variable {s : State} {v : Byte}

theorem shiftMem_of_peek (op : ShiftOp) (h : s.peek s.hl = some v) : shiftMem op s =
    .next { (s.afterRead s.hl).busWrite s.hl (shift8 op v s.flags.c).1 with
      flags := shiftFlags (shift8 op v s.flags.c), pc := s.pc + 2, clkTotal := s.clkTotal + 16 } :=
  readModifyWrite_of_peek (fun x => ((shift8 op x s.flags.c).1, shiftFlags (shift8 op x s.flags.c))) 2 16 h

theorem bitMem_of_peek (b : Fin 8) (h : s.peek s.hl = some v) : bitMem b s =
    .next { s.afterRead s.hl with
      flags := bitFlags b v s.flags, pc := s.pc + 2, clkTotal := s.clkTotal + 12 } := by
  rw [bitMem, finish_busRead_of_peek h, State.finish, State.setFlags_pc, State.setFlags_clkTotal, State.afterRead_pc,
    State.afterRead_clkTotal]
  rfl

/-- One read and then one write of the same address, with a byte that is a function of the byte read, and no flag. -/
theorem rewrite_of_peek {a : Word} (g : Byte → Byte) (len n : Nat) (h : s.peek a = some v) :
    (s.busRead a).finish (fun x t => (t.busWrite a (g x)).finish len n) =
      .next { (s.afterRead a).busWrite a (g v) with
        pc := s.pc + BitVec.ofNat 16 len, clkTotal := s.clkTotal + n } := by
  rw [finish_busRead_of_peek h, State.finish, State.busWrite_pc, State.busWrite_clkTotal, State.afterRead_pc,
    State.afterRead_clkTotal]

end Sys2Proof.Machine

open Sys2Proof Sys2Proof.Machine

/-- Settles O27: each function moves the byte by one place, and the eight differ in the bit that enters. -/
theorem shifterFunctions : Obligations.ShifterFunctions := by
  unfold Obligations.ShifterFunctions
  exact fun v cin => ⟨shift8_rlc v cin, shift8_rrc v cin, shift8_rl v cin, shift8_rr v cin, shift8_sla v cin,
    shift8_sra v cin, shift8_swap v cin, shift8_srl v cin⟩

/-- Settles O26: the four rotate `A` by the shifter functions of the `CB` table; their flags ignore the result. -/
theorem accumulatorRotates : Obligations.AccumulatorRotates := by
  unfold Obligations.AccumulatorRotates
  intro s result
  have hrotate (op : ShiftOp) : rotateA op s =
      .next (result (shift8 op s.regs.a s.flags.c).1 (shift8 op s.regs.a s.flags.c).2) := rfl
  refine ⟨rfl, rfl, rfl, rfl, ?rlca, ?rrca, ?rla, ?rra⟩
  case rlca => exact (hrotate .rlc).trans (by rw [shift8_rlc])
  case rrca => exact (hrotate .rrc).trans (by rw [shift8_rrc])
  case rla => exact (hrotate .rl).trans (by rw [shift8_rl])
  case rra => exact (hrotate .rr).trans (by rw [shift8_rr])

/-- Settles O28: the operation's function of the register and the carry, then the end of the instruction. -/
theorem rotatesAndShiftsOfARegister : Obligations.RotatesAndShiftsOfARegister := by
  unfold Obligations.RotatesAndShiftsOfARegister
  intro op r s f
  exact ⟨encode_shift_reg op r, exec_shift_reg s op r⟩

/-- Settles O29: the read decides between the fault and the operation on the byte it finds. -/
theorem rotatesAndShiftsOfMemory : Obligations.RotatesAndShiftsOfMemory := by
  unfold Obligations.RotatesAndShiftsOfMemory
  intro op v s f
  rw [exec_shift_mem]
  exact ⟨encode_shift_mem op, fun h => finish_busRead_of_peek_none h _, shiftMem_of_peek op⟩

/-- Settles O30: the register form in every state, the memory form as its read decides. -/
theorem bitTests : Obligations.BitTests := by
  unfold Obligations.BitTests
  intro b r v s
  rw [exec_bit_mem]
  exact ⟨encode_bit_reg b r, encode_bit_mem b, fun h => finish_busRead_of_peek_none h _, exec_bit_reg s b r,
    bitMem_of_peek b⟩

/-- Settles O31: the bytes written are `resBit` and `setBit` of the operand, which differ from it in bit `b` at most. -/
theorem resetAndSetBit : Obligations.ResetAndSetBit := by
  unfold Obligations.ResetAndSetBit
  intro b r v s
  rw [exec_res_mem, exec_set_mem]
  refine ⟨encode_res_reg b r, encode_res_mem b, encode_set_reg b r, encode_set_mem b,
    fun h => ⟨finish_busRead_of_peek_none h _, finish_busRead_of_peek_none h _⟩,
    resBit b (s.regs.get r), setBit b (s.regs.get r), resBit b v, setBit b v, fun i hi => ?bits,
    exec_res_reg s b r, exec_set_reg s b r, rewrite_of_peek (resBit b) 2 16, rewrite_of_peek (setBit b) 2 16⟩
  case bits => exact ⟨getLsbD_resBit b _ hi, getLsbD_setBit b _ i, getLsbD_resBit b v hi, getLsbD_setBit b v i⟩

end

section
/-! SUPPORT. Control flow (45_control_flow.md R353-R363): the conditional rows as one instruction each, the target of a
relative jump, a call with and without room on the stack, and a return with each outcome of its pop; then the settled
obligations of those rules. -/
namespace Sys2Proof

/-! ## Encodings of the conditional rows (30_encoding.md R161, R164) -/

theorem encode_jp (cc : Cond) (a16 : Word) :
    encode (Instr.jp cc a16) = [opByte 3 cc.code 2, loByte a16, hiByte a16] := by
  cases cc <;> rfl

theorem encode_jr (cc : Cond) (e8 : Byte) : encode (Instr.jr cc e8) = [opByte 0 (4 + cc.code) 0, e8] := by
  cases cc <;> rfl

theorem encode_call (cc : Cond) (a16 : Word) :
    encode (Instr.call cc a16) = [opByte 3 cc.code 4, loByte a16, hiByte a16] := by
  cases cc <;> rfl

theorem encode_retCond (cc : Cond) : encode (Instr.retCond cc) = [opByte 3 cc.code 0] := by cases cc <;> rfl

theorem encode_rst (y : Fin 8) : encode (Instr.rst y) = [opByte 3 y.val 7] := by fin_cases y <;> rfl

end Sys2Proof

namespace Sys2Proof.Machine

variable {s t : State} {cc : Cond}

/-! ## Jumps (R356) -/

/-- The target of a relative jump as an integer: residues modulo 0x10000 add. -/
theorem State.relTarget_eq (s : State) (e8 : Byte) :
    s.relTarget e8 = BitVec.ofInt 16 ((s.pc.toNat : Int) + 2 + e8.toInt) := by
  rw [State.relTarget, sext16, BitVec.ofInt_add, BitVec.ofInt_add, BitVec.ofInt_natCast, BitVec.ofNat_toNat,
    BitVec.setWidth_eq]
  rfl

/-! ## Calls (R358, R359, R360) -/

theorem callTo_of_room (target : Word) (len n : Nat) (h : 0x0002 ≤ s.sp.toNat) : callTo target len n s =
    .next { (s.busWrite (s.sp - 1) (hiByte (s.pc + BitVec.ofNat 16 len))).busWrite (s.sp - 2)
        (loByte (s.pc + BitVec.ofNat 16 len)) with
      sp := s.sp - 2, pc := target, clkTotal := s.clkTotal + n } := by
  rw [callTo, State.push16_ok _ h, Access.finish, State.jump, State.setSp_clkTotal, State.busWrite_clkTotal,
    State.busWrite_clkTotal]
  rfl

theorem callTo_of_no_room (target : Word) (len n : Nat) (h : s.sp.toNat < 0x0002) :
    callTo target len n s = .next { s with fault := some (.stackError s.sp) } := by
  rw [callTo, State.push16_raised _ h]
  rfl

theorem exec_call_taken (a16 : Word) (h : s.flags.holds cc = true) :
    exec (Instr.call cc a16) s = callTo a16 3 24 s := by
  rw [exec_call, callCond, if_pos h]

theorem exec_call_not_taken (a16 : Word) (h : s.flags.holds cc = false) :
    exec (Instr.call cc a16) s = .next { s with pc := s.pc + 3, clkTotal := s.clkTotal + 12 } := by
  rw [exec_call, callCond, if_neg (ne_true_of_eq_false h)]
  rfl

/-! ## Returns (R361, R362, R363) -/

theorem exec_retCond_taken (h : s.flags.holds cc = true) : exec (Instr.retCond cc) s = returnNow 20 s := by
  rw [exec_retCond, returnCond, if_pos h]

theorem exec_retCond_not_taken (h : s.flags.holds cc = false) :
    exec (Instr.retCond cc) s = .next { s with pc := s.pc + 1, clkTotal := s.clkTotal + 8 } := by
  rw [exec_retCond, returnCond, if_neg (ne_true_of_eq_false h)]
  rfl

/-- What a return makes of two bytes popped by `State.pop16_ok`. -/
theorem State.jump_after_pop (s : State) (sp target : Word) (n : Nat) :
    (((s.afterRead s.sp).afterRead (s.sp + 1)).setSp sp).jump target n =
      { (s.afterRead s.sp).afterRead (s.sp + 1) with sp := sp, pc := target, clkTotal := s.clkTotal + n } := by
  rw [State.jump, State.setSp_clkTotal, State.afterRead_clkTotal, State.afterRead_clkTotal]
  rfl

theorem State.returnFrom_raised (n : Nat) (h : s.pop16 = .raised t) : s.returnFrom n = .raised t := by
  rw [State.returnFrom, h]
  rfl

/-- Where the pop raises, the faulted state is the result of every return, `IME` and `pc` included. -/
theorem returns_raised (cc : Cond) (h : s.pop16 = .raised t) : exec .ret s = .next t ∧
    (s.flags.holds cc = true → exec (Instr.retCond cc) s = .next t) ∧ exec .reti s = .next t := by
  have hnow (n : Nat) : returnNow n s = .next t := by
    rw [returnNow, State.returnFrom_raised n h]
    rfl
  have hreti : exec .reti s = (s.returnFrom 16).finish fun _ u => { u with ime := true, eiPending := false } := rfl
  refine ⟨hnow 16, fun hc => (exec_retCond_taken hc).trans (hnow 20), ?_⟩
  rw [hreti, State.returnFrom_raised 16 h]
  rfl

end Sys2Proof.Machine

open Sys2Proof Sys2Proof.Machine

/-- Settles O32: each jump ends at its target, the conditional ones where `Flags.holds` says so. -/
theorem jumps : Obligations.Jumps := by
  unfold Obligations.Jumps
  intro cc a16 e8 s holds target
  have hholds : holds = s.flags.holds cc := by cases cc <;> rfl
  have htarget : target = s.relTarget e8 := (s.relTarget_eq e8).symm
  rw [hholds, htarget]
  exact ⟨rfl, encode_jp cc a16, rfl, rfl, encode_jr cc e8, rfl, exec_jp s cc a16, rfl, rfl, exec_jr s cc e8⟩

/-- Settles O33: the calls and restarts are one push and one jump, and `sp` decides between the outcomes of the push. -/
theorem callsAndRestarts : Obligations.CallsAndRestarts := by
  unfold Obligations.CallsAndRestarts
  intro cc y a16 s pushed call
  rw [exec_rst]
  refine ⟨rfl, encode_call cc a16, encode_rst y, fun hsp => ?room, exec_call_not_taken a16, fun hsp => ?noRoom⟩
  case room =>
    have hcall : callTo a16 3 24 s = .next call := callTo_of_room a16 3 24 hsp
    exact ⟨hcall, fun hc => (exec_call_taken a16 hc).trans hcall, callTo_of_room _ 1 16 hsp⟩
  case noRoom =>
    have hcall := callTo_of_no_room a16 3 24 hsp
    exact ⟨hcall, fun hc => (exec_call_taken a16 hc).trans hcall, callTo_of_no_room _ 1 16 hsp⟩

/-- Settles O34: a return jumps to the word its pop completes with, and keeps the state its pop raises in. -/
theorem returns : Obligations.Returns := by
  unfold Obligations.Returns
  intro cc lo hi s u all
  refine ⟨rfl, encode_retCond cc, rfl, fun hsp hlo hhi => ?completes, exec_retCond_not_taken,
    fun hsp => returns_raised cc (State.pop16_raised hsp),
    fun hsp hlo => returns_raised cc (State.pop16_no_low hsp hlo),
    fun hsp hlo hhi => returns_raised cc (State.pop16_no_high hsp hlo hhi)⟩
  case completes =>
    have hpop := State.pop16_ok hsp hlo hhi
    have hjump (n : Nat) : (((s.afterRead s.sp).afterRead (s.sp + 1)).setSp (s.sp + 2)).jump (wordOf hi lo) n =
        { u with clkTotal := s.clkTotal + n } := s.jump_after_pop _ _ n
    refine ⟨(exec_ret_ok hpop).trans ?_, fun hc => (exec_retCond_ok hc hpop).trans ?_, (exec_reti_ok hpop).trans ?_⟩
      <;> rw [hjump]

end

section
/-! SUPPORT. The unassigned opcode values (30_encoding.md R167, 46_cpu_control.md R376): what the decoder and a fetch make of
such a value, and a step whose instruction raises; then the settled obligations of the CPU control rules. -/
namespace Sys2Proof

variable {p : Byte × Instr}

/-! ## The decoder on an unassigned value (R152, R167) -/

theorem formatOf_unassigned (h : p ∈ Instr.unassigned) : formatOf p.1 = .op := by fin_cases h <;> rfl

theorem decodeOp_unassigned (h : p ∈ Instr.unassigned) (b1 b2 : Byte) : decodeOp p.1 b1 b2 = p.2 := by
  fin_cases h <;> rfl

theorem decode_unassigned (h : p ∈ Instr.unassigned) (rest : List Byte) : decode (p.1 :: rest) = .ok (p.2, rest) := by
  simp only [decode, formatOf_unassigned h, decodeOp_unassigned h]

theorem encode_unassigned (h : p ∈ Instr.unassigned) : encode p.2 = [p.1] := by
  rw [← decodeOp_unassigned h 0 0, (encode_decodeOp p.1 0 0).2, formatOf_unassigned h]
  rfl

/-- The opcode byte is the first byte of the encoding, so it can be read back from the decoded instruction. -/
theorem head_encode_decodeOp (op b1 b2 : Byte) : (encode (decodeOp op b1 b2)).head? = some op := by
  rw [(encode_decodeOp op b1 b2).2]
  cases formatOf op <;> rfl

theorem decodeOp_mem_unassigned_iff (op b1 b2 : Byte) :
    decodeOp op b1 b2 ∈ Instr.unassigned.map Prod.snd ↔ op ∈ Instr.unassigned.map Prod.fst := by
  constructor <;> intro h <;> obtain ⟨p, hp, heq⟩ := List.mem_map.1 h
  · have hhead := head_encode_decodeOp op b1 b2
    rw [← heq, encode_unassigned hp] at hhead
    exact List.mem_map.2 ⟨p, hp, Option.some.inj hhead⟩
  · rw [← heq, decodeOp_unassigned hp]
    exact List.mem_map_of_mem hp

end Sys2Proof

namespace Sys2Proof.Machine

variable {s t c : State} {i : Instr} {p : Byte × Instr}

/-! ## A step that runs an unassigned value (R376, 60_exceptions.md R501) -/

/-- An unassigned value is fetched with one read. -/
theorem State.fetch_unassigned (h : p ∈ Instr.unassigned) (hpeek : s.peek s.pc = some p.1) :
    s.fetch = .ok p.2 (s.afterRead s.pc) := by
  rw [State.fetch, s.busRead_of_peek hpeek]
  simp only [Access.andThen, formatOf_unassigned h, decodeOp_unassigned h]

/-- Where the instruction records a fault, the step ends in the state it left: neither the end of an `EI` delay nor the PPU
acts in a faulted state. -/
theorem State.AboutToFetch.step_of_exec_raised (h : s.AboutToFetch) (hfetch : s.fetch = .ok i c)
    (hexec : exec i c = .next t) (ht : t.fault ≠ none) : step s = .next t := by
  rw [h.step_of_fetch hfetch, hexec, onNext, State.endEiDelay_of_fault _ ht, State.ppuTick_of_fault ht]

end Sys2Proof.Machine

open Sys2Proof Sys2Proof.Machine

/-- Settles O37: an instruction decoded from an opcode byte has that byte first in its encoding, and a step ends where its
instruction raises. -/
theorem unassignedOpcodesFault : Obligations.UnassignedOpcodesFault := by
  unfold Obligations.UnassignedOpcodesFault
  refine ⟨rfl, fun p hp s rest => ⟨decode_unassigned hp rest, exec_unassigned s hp, fun hs hpeek => ?step⟩,
    decodeOp_mem_unassigned_iff⟩
  case step =>
    have hexec : exec p.2 (s.afterRead s.pc) =
        .next { s.afterRead s.pc with fault := some (.opcodeError p.1 s.pc) } := by
      rw [exec_unassigned _ hp, raiseOpcodeError, State.afterRead_pc]
      rfl
    exact hs.step_of_exec_raised (State.fetch_unassigned hp hpeek) hexec nofun

/-- Settles O36: no row reads the bus or branches, so each meaning is one state update, read off its definition. -/
theorem cpuControlInstructions : Obligations.CpuControlInstructions := by
  unfold Obligations.CpuControlInstructions
  intro ignored s
  and_intros <;> rfl

end

section
/-! SUPPORT. The PPU (51_ppu.md): its tick where the gate is shut and where it is open, the transition out of each mode, and
the bytes of a rendered line; then the settled obligations of that part of the spec. -/
namespace Sys2Proof.Machine

variable {s : State}

/-! ## The gate and the transitions (R433, R434, R436-R438) -/

/-- The PPU does not act with the LCD off. -/
theorem State.ppuTick_of_lcd_off (h : (s.io 0x40).getLsbD 7 = false) : s.ppuTick = s := by
  have hlcd : s.lcdc 7 = false := h
  simp [State.ppuTick, hlcd]

/-- The PPU does not act before the mode's threshold has passed. -/
theorem State.ppuTick_of_early (h : s.clkTotal < s.clkMode + thresh s.ppuMode) : s.ppuTick = s := by
  simp [State.ppuTick, h]

/-- Where the gate of the mode is open, the tick is the transition. -/
theorem State.ppuTick_of_due {m : PpuMode} (hmode : s.ppuMode = m)
    (h : s.fault = none ∧ (s.io 0x40).getLsbD 7 = true ∧ s.clkMode + thresh m ≤ s.clkTotal) :
    s.ppuTick = s.ppuTransition := by
  obtain ⟨hfault, hlcd, hgate⟩ := h
  have hon : s.lcdc 7 = true := hlcd
  subst hmode
  simp [State.ppuTick, hfault, hon, Nat.not_lt.2 hgate]

theorem State.ppuTransition_oam (h : s.ppuMode = .oam) :
    s.ppuTransition = { s with clkMode := s.clkMode + 80, ppuMode := .transfer } := by
  simp only [State.ppuTransition, h, thresh]

/-- A visible line is rendered at the end of `Transfer`. -/
theorem State.ppuTransition_transfer_visible (h : s.ppuMode = .transfer) (hly : s.ly.toNat ≤ 143) :
    s.ppuTransition = { s with
      clkMode := s.clkMode + 170
      ppuMode := .hblank
      mem := { s.mem with fb := s.mem.fb.writeBlock (s.ly.toNat * 640) (s.scanline s.ly.toNat) } } := by
  have hbase : s.ly.toNat * 640 = s.ly.toNat * screenW * 4 := (Nat.mul_assoc _ 160 4).symm
  simp only [State.ppuTransition, h, thresh, if_pos hly, State.renderScanline_eq, hbase]
  rfl

theorem State.ppuTransition_transfer_hidden (h : s.ppuMode = .transfer) (hly : 143 < s.ly.toNat) :
    s.ppuTransition = { s with clkMode := s.clkMode + 170, ppuMode := .hblank } := by
  simp only [State.ppuTransition, h, thresh, if_neg (Nat.not_le.2 hly)]

/-- The last visible line ends in `VBlank`, with its request. -/
theorem State.ppuTransition_hblank_last (h : s.ppuMode = .hblank) (hly : s.ly = 143#8) :
    s.ppuTransition = { s with
      clkMode := s.clkMode + 206
      ppuMode := .vblank
      mem := { s.mem with io := (s.mem.io.write 0x44 144#8).write 0x0F (s.io 0x0F ||| 0x01#8) } } := by
  simp only [State.ppuTransition, h, thresh, if_pos hly]
  rfl

theorem State.ppuTransition_hblank (h : s.ppuMode = .hblank) (hly : s.ly ≠ 143#8) :
    s.ppuTransition = { s with
      clkMode := s.clkMode + 206
      ppuMode := .oam
      mem := { s.mem with io := s.mem.io.write 0x44 (s.ly + 1#8) } } := by
  simp only [State.ppuTransition, h, thresh, if_neg hly]
  rfl

theorem ly_succ_eq_154_iff (ly : Byte) : ly + 1#8 = 154#8 ↔ ly.toNat = 153 := by
  rw [← BitVec.toNat_inj, BitVec.toNat_add]
  have := ly.isLt
  simp only [BitVec.toNat_ofNat]
  omega

/-- The last line of a frame ends in line 0. -/
theorem State.ppuTransition_vblank_last (h : s.ppuMode = .vblank) (hly : s.ly.toNat = 153) :
    s.ppuTransition = { s with
      clkMode := s.clkMode + 456, ppuMode := .oam, mem := { s.mem with io := s.mem.io.write 0x44 0#8 } } := by
  simp only [State.ppuTransition, h, thresh, if_pos ((ly_succ_eq_154_iff s.ly).2 hly)]
  rfl

theorem State.ppuTransition_vblank (h : s.ppuMode = .vblank) (hly : s.ly.toNat ≠ 153) :
    s.ppuTransition = { s with
      clkMode := s.clkMode + 456, mem := { s.mem with io := s.mem.io.write 0x44 (s.ly + 1#8) } } := by
  simp only [State.ppuTransition, h, thresh, if_neg (mt (ly_succ_eq_154_iff s.ly).1 hly)]
  rfl

theorem Byte.add_one_eq_ofNat (v : Byte) : v + 1#8 = BitVec.ofNat 8 ((v.toNat + 1) % 0x100) := by
  apply BitVec.eq_of_toNat_eq
  simp [BitVec.toNat_add]

/-! ## The bytes of a rendered line (R440-R446) -/

/-- A list of runs of `c` entries each: entry `j` of run `x` stands at `x * c + j`. -/
theorem getElem?_flatMap_range {α : Type} {f : Nat → List α} {c : Nat} (hf : ∀ x, (f x).length = c) {n x j : Nat}
    (hx : x < n) (hj : j < c) : ((List.range n).flatMap f)[x * c + j]? = (f x)[j]? := by
  induction n with
  | zero => cases hx
  | succ n ih =>
    have hlen : ((List.range n).flatMap f).length = n * c := by simp [List.length_flatMap, hf]
    rw [List.range_succ, List.flatMap_append]
    obtain hlt | rfl : x < n ∨ x = n := by omega
    · have hin : x * c + j < n * c := by
        have := Nat.mul_le_mul_right c (Nat.succ_le_of_lt hlt)
        rw [Nat.succ_mul] at this
        omega
      rw [List.getElem?_append_left (hlen ▸ hin), ih hlt]
    · rw [List.getElem?_append_right (by omega), hlen, Nat.add_sub_cancel_left, List.flatMap_singleton]

theorem State.scanline_getElem? (s : State) (ly : Nat) {x j : Nat} (hx : x < 160) (hj : j < 4) :
    (s.scanline ly)[x * 4 + j]? = (s.pixel ly x)[j]? :=
  getElem?_flatMap_range (s.pixel_length ly) hx hj

/-- The frame buffer after a line is rendered: the line's bytes at its place, every other byte as before. -/
theorem Memory.read_line (m : Memory) (ly k : Nat) (hk : k < ly * 640 ∨ ly * 640 + 640 ≤ k) :
    Memory.read (m.writeBlock (ly * 640) (s.scanline ly)) k = Memory.read m k := by
  rw [Memory.read_writeBlock, dif_neg (by rw [s.scanline_length]; omega)]

theorem Memory.read_line_pixel (m : Memory) {ly x j : Nat} (hx : x < 160) (hj : j < 4) :
    some (Memory.read (m.writeBlock (ly * 640) (s.scanline ly)) ((ly * 160 + x) * 4 + j)) = (s.pixel ly x)[j]? := by
  have hoff : (ly * 160 + x) * 4 + j - ly * 640 = x * 4 + j := by omega
  rw [Memory.read_writeBlock, dif_pos (by rw [s.scanline_length]; omega), ← s.scanline_getElem? ly hx hj,
    List.getElem?_eq_getElem (by rw [s.scanline_length]; omega)]
  simp only [hoff]

/-- A tile's data lies from `idx * 16` on, or, with signed indices, from 0x1000 on for the first half of them (R444). -/
theorem State.vram0_tileAddr (s : State) (idx : Byte) (d : Nat) :
    s.vram0 (s.tileAddr idx + d) = s.mem.vram.read
      ((if (s.io 0x40).getLsbD 4 then idx.toNat * 16
        else if idx.toNat < 0x80 then 0x1000 + idx.toNat * 16 else idx.toNat * 16) + d) := by
  have haddr : s.tileAddr idx = 0x8000 + (if (s.io 0x40).getLsbD 4 then idx.toNat * 16
      else if idx.toNat < 0x80 then 0x1000 + idx.toNat * 16 else idx.toNat * 16) := by
    unfold State.tileAddr State.lcdc
    split
    · rfl
    · rw [BitVec.toInt_eq_toNat_cond]
      have := idx.isLt
      split <;> split <;> omega
  rw [haddr, Nat.add_assoc, State.vram0, Nat.add_sub_cancel_left]
  rfl

theorem State.vram0_mapBase (s : State) (d : Nat) :
    s.vram0 (s.mapBase + d) = s.mem.vram.read ((if (s.io 0x40).getLsbD 3 then 0x1C00 else 0x1800) + d) := by
  have haddr : s.mapBase = 0x8000 + (if (s.io 0x40).getLsbD 3 then 0x1C00 else 0x1800) := by
    unfold State.mapBase State.lcdc
    split <;> rfl
  rw [haddr, Nat.add_assoc, State.vram0, Nat.add_sub_cancel_left]
  rfl

theorem Bool.toNat_two_planes (hi lo : Bool) :
    hi.toNat * 2 + lo.toNat = (if hi then 2 else 0) + (if lo then 1 else 0) := by
  cases hi <;> cases lo <;> rfl

theorem State.shadeOf_eq (s : State) (ci : Nat) : s.shadeOf ci = (s.io 0x47).toNat / 4 ^ ci % 4 := by
  rw [State.shadeOf, Nat.mul_comm, Nat.pow_mul]

end Sys2Proof.Machine

open Sys2Proof Sys2Proof.Machine

/-- Settles O57: the gate, then the transition out of each mode. -/
theorem ppuModeMachine : Obligations.PpuModeMachine := by
  unfold Obligations.PpuModeMachine
  intro s due withLy
  refine ⟨State.ppuTick_of_fault, State.ppuTick_of_lcd_off, fun h => ?early, fun hm h => ?oam, fun hm h hly => ?visible,
    fun hm h hly => ?hidden, fun hm h hly => ?lastVisible, fun hm h hly => ?hblank, fun hm h hly => ?lastLine,
    fun hm h hly => ?vblank⟩
  case early =>
    apply State.ppuTick_of_early
    revert h
    cases s.ppuMode <;> exact id
  case oam => rw [State.ppuTick_of_due hm h, State.ppuTransition_oam hm]
  case visible => rw [State.ppuTick_of_due hm h, State.ppuTransition_transfer_visible hm hly]
  case hidden => rw [State.ppuTick_of_due hm h, State.ppuTransition_transfer_hidden hm hly]
  case lastVisible => rw [State.ppuTick_of_due hm h, State.ppuTransition_hblank_last hm hly]
  case hblank => rw [State.ppuTick_of_due hm h, State.ppuTransition_hblank hm hly, Byte.add_one_eq_ofNat]
  case lastLine => rw [State.ppuTick_of_due hm h, State.ppuTransition_vblank_last hm hly]
  case vblank => rw [State.ppuTick_of_due hm h, State.ppuTransition_vblank hm hly, Byte.add_one_eq_ofNat]

/-- Settles O58: the transition writes the line as one block, whose four bytes at a column are the pixel there. -/
theorem renderedLine : Obligations.RenderedLine := by
  unfold Obligations.RenderedLine
  intro s x hfault hlcd hmode hgate hly hx px py mapBase idx tile lo hi ci shade o
  have hfb : s.ppuTick.mem.fb = s.mem.fb.writeBlock (s.ly.toNat * 640) (s.scanline s.ly.toNat) := by
    rw [State.ppuTick_of_due hmode ⟨hfault, hlcd, hgate⟩, State.ppuTransition_transfer_visible hmode hly]
  have hci : s.colourIndex s.ly.toNat x = ci := by
    simp only [State.colourIndex, Nat.add_assoc, State.vram0_mapBase, State.vram0_tileAddr, Bool.toNat_two_planes,
      ci, hi, lo, tile, idx, mapBase, px, py]
  have hpixel : s.pixel s.ly.toNat x = [shade.r, shade.g, shade.b, 0xFF#8] := by
    rw [State.pixel, hci, State.shadeOf_eq]
  have hbyte (j : Nat) (hj : j < 4) :
      some (s.ppuTick.cell .fb (o + j)) = [shade.r, shade.g, shade.b, 0xFF#8][j]? := by
    rw [← hpixel, ← Memory.read_line_pixel s.mem.fb hx hj, ← hfb]
    rfl
  refine ⟨Option.some.inj (hbyte 0 (by decide)), Option.some.inj (hbyte 1 (by decide)),
    Option.some.inj (hbyte 2 (by decide)), Option.some.inj (hbyte 3 (by decide)), fun k hk => ?_⟩
  exact (congrArg (Memory.read · k) hfb).trans (Memory.read_line s.mem.fb _ k hk)

end

section
/-! SUPPORT. The interrupt check (60_exceptions.md R510, R512, R513) in the terms of the statements, then the settled
obligations of the clock, the interrupt check and the steps that run no instruction (50_clock_scheduler.md R403, R405,
R406). -/
namespace Sys2Proof.Machine

variable {s : State}

/-- Leaving a halt makes the CPU run and costs 4 cycles; any other run state is kept (46_cpu_control.md R371). -/
theorem State.exitHalt_eq (s : State) : s.exitHalt = { s with
    run := if s.run = .halted then .running else s.run
    clkTotal := s.clkTotal + if s.run = .halted then 4 else 0 } := by
  unfold State.exitHalt
  split <;> rfl

/-- The source that is taken is the pending one below which none is (R513). -/
theorem lowestSource_eq {p : BitVec 5} {n : Nat} (hn : n < 5) (hset : p.getLsbD n = true)
    (hclear : ∀ m, m < n → p.getLsbD m = false) : lowestSource p = n := by
  interval_cases n <;> simp [lowestSource, hset, hclear, -BitVec.getLsbD_eq_getElem]

theorem clearMask_eq (n : Nat) : 0xFF#8 ^^^ (1#8 <<< n) = ~~~(1#8 <<< n) := BitVec.allOnes_xor

/-- Past the frame budget the step is the reduction of the counters (R405). -/
theorem step_past_frame (h : s.fault = none) (hrun : s.run ≠ .stopped) (hframe : frameCycles < s.clkTotal) :
    step s = .next s.frameBoundary := by
  simp only [step, h, if_neg hrun, if_pos hframe]

end Sys2Proof.Machine

open Sys2Proof Sys2Proof.Machine

/-- Settles O51: the PPU leaves `clk.total` alone, and the CPU tick's part is its own law. -/
theorem tickCycleBounds : Obligations.TickCycleBounds := by
  unfold Obligations.TickCycleBounds
  intro s t hs h
  obtain ⟨u, hu, hstep⟩ := step_ticks hs.noFault hs.notStopped hs.inFrame
  obtain rfl : u.ppuTick = t := Host.Outcome.next.inj (hstep.symm.trans h)
  obtain ⟨-, -, hbounds⟩ := State.cpuTick_keeps hs.noFault hs.notStopped hu
  have hfault : u.ppuTick.fault = u.fault := by rw [u.ppuTick_eq]
  rwa [u.ppuTick_clkTotal, hfault]

/-- Settles O55: the branches of the check, with the halt exit written out and the lowest source identified. -/
theorem interruptCheckTakesTheLowestSource : Obligations.InterruptCheckTakesTheLowestSource := by
  unfold Obligations.InterruptCheckTakesTheLowestSource
  intro s awake exitCost
  refine ⟨rfl, State.interruptCheck_none, State.interruptCheck_raised, fun hp hime => ?masked,
    fun n hn hset hclear hime hsp => ?taken⟩
  case masked => rw [State.interruptCheck_masked hp hime, State.exitHalt_eq]
  case taken =>
    intro m
    have hp : s.pending ≠ 0#5 := by
      intro h
      simp [h] at hset
    rw [State.interruptCheck_taken hp hime hsp, lowestSource_eq hn hset hclear, clearMask_eq, State.exitHalt_eq,
      s.busWrite_withRun, (s.busWrite _ _).busWrite_withRun]
    rfl

/-- Settles O48: the branches of a step that come before a fetch. -/
theorem stepsThatRunNoInstruction : Obligations.StepsThatRunNoInstruction := by
  unfold Obligations.StepsThatRunNoInstruction
  intro s
  refine ⟨fun f h => ?faulted, fun h hrun => ?stopped, fun h hrun hframe => ?boundary, fun h hframe hrun hp => ?halted⟩
  case faulted => rw [step, h]
  case stopped => simp only [step, h, if_pos hrun]
  case boundary => exact step_past_frame h hrun hframe
  case halted =>
    have hcheck : s.interruptCheck = s := State.interruptCheck_none hp
    obtain ⟨u, hu, hstep⟩ := step_ticks h (by rw [hrun]; nofun) hframe
    have hidle : s.cpuTick = .next (s.advance haltIdleCycles) := by simp [State.cpuTick, hcheck, h, hrun]
    obtain rfl : s.advance haltIdleCycles = u := Host.Outcome.next.inj (hidle.symm.trans hu)
    exact hstep

end
